-- ==== Sys2Proof/Word.lean ====
section
/-! DEFINITION. The word types of the command streamers and their plainest arithmetic (00_scope.md R8, R9). -/

namespace Sys2Proof

/-- A DWord: commands are always multiples of DWords (30_encoding.md R140). -/
abbrev Word := BitVec 32

/-- The addressable unit of graphics memory (20_memory.md R90). -/
abbrev Byte := BitVec 8

/-- A 32-bit Graphics Address (00_scope.md R7, R10). -/
abbrev GraphicsAddress := BitVec 32

end Sys2Proof
end

