-- ==== Sys2Proof/Machine/Bits.lean ====
section
/-! DEFINITION. Bit fields and byte order (00_scope.md R8, 20_memory.md R100, 30_encoding.md R163). -/

namespace Sys2Proof

/-- The field `w[lo + len - 1 : lo]`: every command field is one contiguous bit range of one DWord
(30_encoding.md R163). -/
def field (w : Word) (lo len : Nat) : BitVec len := w.extractLsb' lo len

/-- `bits(x, hi, lo)`: the unsigned value of bits `hi` down to `lo` (00_scope.md R8, R11). -/
def bitsOf {w : Nat} (x : BitVec w) (hi lo : Nat) : Nat := (x.toNat >>> lo) % 2 ^ (hi + 1 - lo)

/-- The bytes of a DWord, lowest address first: little-endian (20_memory.md R100; DESIGN CHOICE of the
spec, log entry 1). -/
def bytesOfWord (w : Word) : List Byte :=
  [w.extractLsb' 0 8, w.extractLsb' 8 8, w.extractLsb' 16 8, w.extractLsb' 24 8]

/-- The DWord whose bytes, lowest address first, are given (20_memory.md R100). -/
def wordOfBytes (b0 b1 b2 b3 : Byte) : Word := (b3 ++ b2 ++ b1 ++ b0 : BitVec (8 + 8 + 8 + 8))

/-- The DWords of a byte string; bytes left over at the end are no DWord. -/
def wordsOfBytes : List Byte → List Word
  | b0 :: b1 :: b2 :: b3 :: rest => wordOfBytes b0 b1 b2 b3 :: wordsOfBytes rest
  | _ => []

/-- The bytes of a number, least significant first. -/
def bytesOfNat : Nat → Nat → List Byte
  | 0, _ => []
  | n + 1, v => BitVec.ofNat 8 v :: bytesOfNat n (v / 256)

/-- The number whose bytes are given, least significant first. -/
def natOfBytes : List Byte → Nat
  | [] => 0
  | b :: rest => b.toNat + 256 * natOfBytes rest

end Sys2Proof
end

