-- ==== Sys2Proof/Config.lean ====
section
/-! DEFINITION. What an implementation fixes (00_scope.md R7) and the free values the spec leaves open. -/

namespace Sys2Proof.Config

/-- Page size in bytes (00_scope.md R7). -/
abbrev pageSize : Nat := 4096

/-- Cache line in bytes (00_scope.md R7). -/
abbrev cacheLineSize : Nat := 64

/-- "The length of any one ring buffer is limited to 2MB" (00_scope.md R7, 10_state.md R41). -/
abbrev maxRingLength : Nat := 2097152

/-- Depth in cache lines of the command DMA FIFO of the VCS (10_state.md R48, R80). -/
def dmaFifoLines : Nat := 16

/-- Alignment in bytes of a logical context (49_logical_context.md R720). -/
def contextAlignment : Nat := 256

/-- "This maximum is 2 GB for all products and all surface types" (00_scope.md R7). -/
def maxSurfaceBytes : Nat := 2147483648

/-- "Each structure contains up to 2048 bytes of elements" (00_scope.md R7). -/
def maxStructureBytes : Nat := 2048

/-- The two variants of the device, whose names are lost (00_scope.md R7, R17). -/
inductive Variant where
  | large
  | small
deriving DecidableEq, Repr

/-- `NUM_EUS` (00_scope.md R17). -/
def Variant.numEus : Variant → Nat
  | .large => 16
  | .small => 6

/-- `THREADS_PER_EU` (00_scope.md R17). -/
def Variant.threadsPerEu : Variant → Nat
  | .large => 8
  | .small => 6

/-- Mask stack entries held on chip: "storage of mask stack entries beyond the first 16" is in scratch space
(10_state.md R76). -/
def maskStackOnChip : Nat := 16

/-- Hardware thread slots: 128 or 36 (00_scope.md R17). -/
def Variant.threadSlots (v : Variant) : Nat := v.numEus * v.threadsPerEu

/-- Scratch space required, "a function of (#EUs * #Threads/EU)" that the source does not give
(00_scope.md R17). FREE VALUE, DESIGN CHOICE (log entry 42). -/
opaque scratchSpaceBytes : Nat → Nat

/-- What MI_REPORT_HEAD stores: the contents of the ring head pointer register, whose layout is not in
the source (49_logical_context.md R750). FREE VALUE, DESIGN CHOICE (log entry 12). -/
opaque headRegisterImage : Nat → Word

/-- What the device writes to a reserved DWord of a status page: "unspecified" (49_logical_context.md R753,
93_implementation_defined.md U9). FREE VALUE by counter (log entry 49). -/
opaque reservedStatusDword : Nat → Word

/-- The byte a read at or beyond the General State bound returns: "UNDEFINED values"
(20_memory.md R113). FREE VALUE by counter and address (log entry 29). -/
opaque generalStateUndefinedByte : Nat → Nat → Byte

/-- The byte an instruction fetch at or beyond the Instruction bound returns: "UNDEFINED values"
(20_memory.md R116). FREE VALUE by counter and address (log entry 29). -/
opaque instructionUndefinedByte : Nat → Nat → Byte

/-- Whether an `INSTPM` value selects no base for push constants: bit position and polarity are not in
the source (20_memory.md R110). FREE VALUE (log entry 41). -/
opaque pushConstantsUseNoBase : Word → Bool

/-- `VCS_MMIO_RANGE`, left open by 10_state.md R36: which register offsets the VCS claims.
FREE VALUE (log entry 21). -/
opaque vcsClaimsOffset : Nat → Bool

/-- Reverse gamma conversion of the sRGB formats: the curve is not in the source (45_channel_formats.md R502).
FREE VALUE (log entry 40). -/
opaque srgbToLinear : ℚ → ℚ

/-- Forward gamma conversion of the sRGB formats: the curve is not in the source (45_channel_formats.md R502).
FREE VALUE (log entry 40). -/
opaque linearToSrgb : ℚ → ℚ

/-- Sign, exponent-free payload of the float16 NaN a float32 NaN converts to (45_channel_formats.md R510).
FREE VALUE (log entry 38). -/
opaque f16NanSign : Word → Bool

/-- Fraction of the float16 NaN a float32 NaN converts to, less one (45_channel_formats.md R510).
FREE VALUE (log entry 38). -/
opaque f16NanFraction : Word → BitVec 10

/-- The alpha a luminance format receives by default (45_channel_formats.md R517). FREE VALUE (log entry 38). -/
opaque luminanceDefaultAlpha : ℚ

/-- `DXT1_TRANSPARENT_RGB`, by channel: the colour of a transparent DXT1 texel (46_fxt1_dxt.md R572).
FREE VALUE (log entry 38). -/
opaque dxt1TransparentRgb : Nat → ℚ

/-- The alpha of a BC7 block with mode byte 0 (47_bc4_bc7.md R641, 93_implementation_defined.md U12).
FREE VALUE by block (log entry 38). -/
opaque bc7ReservedAlpha : BitVec 128 → Byte

/-- The texel channels of a BC6H block one of whose endpoints leaves its precision (47_bc4_bc7.md R625,
93_implementation_defined.md U16). FREE VALUE by block, texel and channel (log entry 38). -/
opaque bc6hOutOfPrecision : BitVec 128 → Nat → Nat → BitVec 16

/-- The alpha the BC6H formats receive by default (47_bc4_bc7.md R605). FREE VALUE (log entry 38). -/
opaque bc6hDefaultAlpha : ℚ

end Sys2Proof.Config
end

