-- ==== Sys2Proof/Machine/Assoc.lean ====
section
/-! DEFINITION. Sparse data by number, as a list of pairs in one canonical form: keys strictly rising. Memory,
registers and page maps are kept so, and equal contents are equal lists. -/

namespace Sys2Proof.Assoc

/-- The value listed for a key. -/
def find? {α : Type} (k : Nat) : List (Nat × α) → Option α
  | [] => none
  | (j, v) :: rest => if j = k then some v else find? k rest

/-- List `v` for `k`, keeping the keys rising and replacing what was listed for `k`. -/
def insert {α : Type} (k : Nat) (v : α) : List (Nat × α) → List (Nat × α)
  | [] => [(k, v)]
  | (j, u) :: rest =>
      if k < j then (k, v) :: (j, u) :: rest
      else if k = j then (k, v) :: rest
      else (j, u) :: insert k v rest

/-- Take `k` off the list. -/
def erase {α : Type} (k : Nat) : List (Nat × α) → List (Nat × α)
  | [] => []
  | (j, u) :: rest => if j = k then erase k rest else (j, u) :: erase k rest

/-- Every key of the list is above `k`. -/
def above {α : Type} (k : Nat) : List (Nat × α) → Bool
  | [] => true
  | (j, _) :: rest => decide (k < j) && above k rest

/-- The canonical form: keys strictly rising. -/
def sorted {α : Type} : List (Nat × α) → Bool
  | [] => true
  | (j, _) :: rest => above j rest && sorted rest

/-- What `k` reads as where an unlisted key reads as `d`. -/
def read {α : Type} (d : α) (k : Nat) (l : List (Nat × α)) : α := (find? k l).getD d

/-- Write `v` at `k` where an unlisted key reads as `d`: writing `d` takes the entry off. -/
def write {α : Type} [DecidableEq α] (d : α) (k : Nat) (v : α) (l : List (Nat × α)) : List (Nat × α) :=
  if v = d then erase k l else insert k v l

/-- No entry equals what an unlisted key reads as. -/
def noDefault {α : Type} [DecidableEq α] (d : α) : List (Nat × α) → Bool
  | [] => true
  | (_, v) :: rest => decide (v ≠ d) && noDefault d rest

/-- The canonical form of contents whose unlisted keys read as `d`. -/
def canonical {α : Type} [DecidableEq α] (d : α) (l : List (Nat × α)) : Bool := sorted l && noDefault d l

end Sys2Proof.Assoc
end

