-- ==== Sys2Proof/Machine/SurfaceLayout.lean ====
section
/-! DEFINITION. Surface layout in memory and surface padding: address arithmetic on surface parameters, in natural
numbers (48_surface_layout.md R660 to R707), and the parameters of one surface access. No command of the model reads a
surface: an event does (SurfaceAccess.lean; log entry 47). -/

namespace Sys2Proof.Surface

/-- `ceil(a / b)`: a division that rounds up (48_surface_layout.md, opening). -/
def ceilDiv (a b : Nat) : Nat := (a + b - 1) / b

/-- Rounded up to a multiple of `i` (48_surface_layout.md R668). -/
def roundUp (a i : Nat) : Nat := i * ceilDiv a i

/-- "This maximum is 2 GB for all products and all surface types" (48_surface_layout.md R660). The source gives no
consequence: no access looks at it (log entry 47). -/
def sizeLegal (bytes : Nat) : Bool := decide (bytes ≤ Config.maxSurfaceBytes)

/-- Byte `off` of structure `n` of a buffer (48_surface_layout.md R661). -/
def bufferAddress (base pitch n off : Nat) : Nat := base + n * pitch + off

/-- What R661 asks of a buffer access: the offset in the structure, the structure of at most 2048 bytes. -/
def bufferAccessLegal (pitch off : Nat) : Bool := decide (off < pitch) && decide (pitch ≤ Config.maxStructureBytes)

/-- Byte `v` of structure `u` of a structured buffer (48_surface_layout.md R662). -/
def structuredAddress (base pitch u v : Nat) : Nat := base + u * pitch + v

/-- What R662 asks of a structured access: `v` a multiple of 4, bounded by the pitch. -/
def structuredAccessLegal (pitch v : Nat) : Bool := decide (v % 4 = 0) && decide (v < pitch)

/-- A dimension of LOD `l`, "clamped on the low side at 1" (48_surface_layout.md R663, R665, R685). -/
def mipSize (d l : Nat) : Nat := if 0 < d >>> l then d >>> l else 1

/-- The horizontal alignment of a 1D surface: `i`, and `tailI` from LOD `tailStart` on, where the surface has a Mip Tail
Start LOD: "The alignment parameter may change at one point in the mip chain" (48_surface_layout.md R663). -/
structure LineAlignment where
  i : Nat
  tailStart : Option Nat
  tailI : Nat
deriving DecidableEq, Repr

/-- "The equation uses the I value that applies to the LOD being computed" (48_surface_layout.md R663). R663 says only that
the alignment may change at one point "based on Mip Tail Start LOD": the model changes it at that LOD itself, so that LOD
`tailStart` and those after it have `tailI` (DESIGN CHOICE, log entry 47). -/
def LineAlignment.iAt (a : LineAlignment) (l : Nat) : Nat :=
  match a.tailStart with
  | none => a.i
  | some t => if t ≤ l then a.tailI else a.i

/-- The padded width of LOD `l` of a 1D surface (48_surface_layout.md R663). -/
def lodWidth1d (width : Nat) (a : LineAlignment) (l : Nat) : Nat := roundUp (mipSize width l) (a.iAt l)

/-- The offset of LOD `l` of a 1D surface: the sum of the padded widths before it (48_surface_layout.md R663). -/
def lodOffset1d (width : Nat) (a : LineAlignment) (l : Nat) : Nat := ((List.range l).map (lodWidth1d width a)).sum

/-- The byte offset of pixel `u` of LOD `l` in slice `r` of a 1D surface (48_surface_layout.md R663). R677 adds QPitch to the
vertical component of an array and stores a slice as a MIPLAYOUT_BELOW surface, 1D arrays among them; R663 gives QPitch in
pixels along the one row, and ignores the pitch. The model takes R663's form (DESIGN CHOICE, log entry 47). -/
def offset1d (width : Nat) (a : LineAlignment) (qpitch bpp l u r : Nat) : Nat :=
  (r * qpitch + lodOffset1d width a l + u) * bpp

/-- W_L and H_L of a multisampled depth, stencil or MSFMT_DEPTH_STENCIL surface; none for a count the table does not
list (48_surface_layout.md R666). -/
def multisampleSize (samples w h : Nat) : Option (Nat × Nat) :=
  if samples = 2 then some (ceilDiv w 2 * 4, h)
  else if samples = 4 then some (ceilDiv w 2 * 4, ceilDiv h 2 * 4)
  else if samples = 8 then some (ceilDiv w 2 * 8, ceilDiv h 2 * 4)
  else if samples = 16 then some (ceilDiv w 2 * 8, ceilDiv h 2 * 8)
  else none

/-- The size of an IMS surface (48_surface_layout.md R681). -/
def imsSize (samples w h : Nat) : Option (Nat × Nat) :=
  if samples = 4 then some (2 * w, 2 * h) else if samples = 8 then some (4 * w, 2 * h) else none

/-- Width and height of an alignment unit (48_surface_layout.md R668). -/
structure AlignmentUnit where
  i : Nat
  j : Nat
deriving DecidableEq, Repr

/-- What defines a surface, for its alignment unit; `surfaceState` carries the two alignment fields
(48_surface_layout.md R672). -/
inductive SurfaceKind where
  | depthD16
  | depthOther
  | stencil
  | blockCompressed
  | fxt1
  | surfaceState (horizontal vertical : Nat)
deriving DecidableEq, Repr

/-- "Alignment Unit Size" (48_surface_layout.md R672). -/
def SurfaceKind.unit : SurfaceKind → AlignmentUnit
  | .depthD16 => ⟨8, 4⟩
  | .depthOther => ⟨4, 4⟩
  | .stencil => ⟨8, 8⟩
  | .blockCompressed => ⟨4, 4⟩
  | .fxt1 => ⟨8, 4⟩
  | .surfaceState h v => ⟨h, v⟩

/-- A size in texels, or a place in the monolithic area. -/
structure Extent where
  x : Nat
  y : Nat
deriving DecidableEq, Repr

/-- w_L and h_L (48_surface_layout.md R668). -/
def paddedSize (u : AlignmentUnit) (w h : Nat) : Extent := ⟨roundUp w u.i, roundUp h u.j⟩

/-- w_L and h_L of a separate stencil buffer: width doubled, height halved (48_surface_layout.md R668). -/
def paddedStencil (u : AlignmentUnit) (w h : Nat) : Extent := ⟨2 * roundUp w u.i, roundUp h u.j / 2⟩

/-- The padded size of LOD `l` (48_surface_layout.md R665, R668). -/
def lodSize (u : AlignmentUnit) (width height l : Nat) : Extent := paddedSize u (mipSize width l) (mipSize height l)

/-- The sum of `f` from `a` up to, not including, `b`. -/
def sumFrom (f : Nat → Nat) (a b : Nat) : Nat := ((List.range (b - a)).map fun k => f (a + k)).sum

/-- The two mip layouts the source describes (48_surface_layout.md R667). -/
inductive MipLayout where
  | right
  | below
deriving DecidableEq, Repr

/-- The origin of LOD `l`, from the padded sizes of all (48_surface_layout.md R669, R670). -/
def lodOrigin (m : MipLayout) (size : Nat → Extent) (l : Nat) : Extent :=
  match m, l with
  | _, 0 => ⟨0, 0⟩
  | .right, l + 1 => ⟨(size 0).x, sumFrom (fun k => (size k).y) 1 (l + 1)⟩
  | .below, 1 => ⟨0, (size 0).y⟩
  | .below, l + 2 => ⟨(size 1).x, (size 0).y + sumFrom (fun k => (size k).y) 2 (l + 2)⟩

/-- MIP Map Layout Mode: "MIPLAYOUT_LEGACY is named only here; its layout is not given" (48_surface_layout.md R671). -/
inductive MipMode where
  | layout (m : MipLayout)
  | legacy
deriving DecidableEq, Repr

/-- "MIPLAYOUT_BELOW is the only format supported by 1D non-arrays and both 2D and 1D arrays, the programming of the MIP
Map Layout Mode state variable is ignored" (48_surface_layout.md R677). -/
def MipMode.effective (m : MipMode) (array oneD : Bool) : MipMode := if array || oneD then .layout .below else m

/-- The minimum pitch in texels of a map of LODs 0 to `last`: for MIPLAYOUT_LEGACY "equal to that required by the base
(LOD 0) map"; the exact forms of the others are DEDUCED by the spec (48_surface_layout.md R671). -/
def minimumPitch (m : MipMode) (size : Nat → Extent) (last : Nat) : Nat :=
  match m with
  | .legacy => (size 0).x
  | .layout .right => (size 0).x + ((List.range last).map fun k => (size (k + 1)).x).foldl max 0
  | .layout .below => if last < 2 then max (size 0).x (if last = 0 then 0 else (size 1).x)
      else max (size 0).x ((size 1).x + (size 2).x)

/-- "A safe but simple calculation of minimum pitch" (48_surface_layout.md R671). -/
def simplePitch (m : MipMode) (basePitch : Nat) : Nat :=
  match m with
  | .layout .right => 2 * basePitch
  | .layout .below => basePitch
  | .legacy => basePitch

/-- How texels stand in memory: blocks of `width` by `height` texels, each of `bytes` bytes, the blocks of a memory row
left to right (48_surface_layout.md R673, R674, R676). One texel is a block of an uncompressed format. -/
structure BlockFormat where
  width : Nat
  height : Nat
  bytes : Nat
deriving DecidableEq, Repr

/-- The native map formats the source tells apart by their size in memory (48_surface_layout.md R673, R676); `whole` is
any format of whole bytes per texel. -/
inductive LayoutFormat where
  | dxt1
  | dxt1Rgb
  | dxt2
  | dxt3
  | dxt4
  | dxt5
  | fxt1
  | bc4
  | bc5
  | bc6h
  | bc7
  | yuv422
  | fourBit
  | whole (bytes : Nat)
deriving DecidableEq, Repr

/-- 1 QWord for DXT1, DXT1_RGB and BC4; 2 QWords for DXT2 to DXT5, FXT1, BC5, BC6H and BC7, FXT1 8 texels wide
(48_surface_layout.md R674, R676); a YUV 4:2:2 DWord holds two pixels (45_channel_formats.md R540). -/
def LayoutFormat.block : LayoutFormat → BlockFormat
  | .dxt1 => ⟨4, 4, 8⟩
  | .dxt1Rgb => ⟨4, 4, 8⟩
  | .dxt2 => ⟨4, 4, 16⟩
  | .dxt3 => ⟨4, 4, 16⟩
  | .dxt4 => ⟨4, 4, 16⟩
  | .dxt5 => ⟨4, 4, 16⟩
  | .fxt1 => ⟨8, 4, 16⟩
  | .bc4 => ⟨4, 4, 8⟩
  | .bc5 => ⟨4, 4, 16⟩
  | .bc6h => ⟨4, 4, 16⟩
  | .bc7 => ⟨4, 4, 16⟩
  | .yuv422 => ⟨2, 1, 4⟩
  | .fourBit => ⟨2, 1, 1⟩
  | .whole n => ⟨1, 1, n⟩

/-- The DXT formats, which the table of alignment units names in no row of their own (48_surface_layout.md R672). -/
def LayoutFormat.isDxt : LayoutFormat → Bool
  | .dxt1 | .dxt1Rgb | .dxt2 | .dxt3 | .dxt4 | .dxt5 => true
  | .fxt1 | .bc4 | .bc5 | .bc6h | .bc7 | .yuv422 | .fourBit | .whole _ => false

/-- Compressed formats, whose blocks cover 4 texel rows (48_surface_layout.md R673, R676). -/
def LayoutFormat.compressed (f : LayoutFormat) : Bool := decide (f.block.height = 4)

/-- The alignment fields of SURFACE_STATE keep maps on whole blocks of a format: not 0, the width whole blocks, and for a
compressed format, where "Pad rows are neither required nor allowed", a height of one block (48_surface_layout.md R672,
R676). Others give a map no address and are refused (DESIGN CHOICE, log entry 47). -/
def LayoutFormat.fieldsAgree (f : LayoutFormat) (h v : Nat) : Bool :=
  decide (0 < h) && decide (0 < v) && decide (h % f.block.width = 0) && (!f.compressed || decide (v = f.block.height))

/-- The format is one of the row of the table that the kind names: D16_UNORM and other depth formats, BC*, FXT1, "all
others" (48_surface_layout.md R672). A DXT format agrees with the row of BC* and with that of "all others"
(DESIGN CHOICE, log entry 47). -/
def SurfaceKind.agrees : SurfaceKind → LayoutFormat → Bool
  | .depthD16, f => decide (f = .whole 2)
  | .depthOther, f => !f.compressed
  | .stencil, f => !f.compressed
  | .blockCompressed, f => f.compressed && decide (f ≠ .fxt1)
  | .fxt1, f => decide (f = .fxt1)
  | .surfaceState h v, f => (!f.compressed || f.isDxt) && f.fieldsAgree h v

/-- `b`: "bytes per texel of the native map format (0.5 for DXT1, FXT1, and 4-bit surface format, 2.0 for YUV 4:2:2,
others aligned to surface format)" (48_surface_layout.md R673). -/
def LayoutFormat.bytesPerTexel (f : LayoutFormat) : ℚ := (f.block.bytes : ℚ) / (f.block.width * f.block.height : ℚ)

/-- `t`: "texel rows / memory row (4 for DXT1-5 and FXT1, 1 for all other formats)"; 4 for BC4 to BC7 too, DEDUCED by the
spec (48_surface_layout.md R673). -/
def LayoutFormat.rowsPerMemoryRow (f : LayoutFormat) : Nat := f.block.height

/-- `A = B + (y * p) / t + x * b * t`, with `b` bytes per texel as a fraction (48_surface_layout.md R673). -/
def linearAddress (base pitch t : Nat) (b : ℚ) (x y : Nat) : ℚ :=
  (base : ℚ) + (y * pitch : ℚ) / t + (x : ℚ) * b * t

/-- The linear address of Cartesian (x, y) in a map of a format (48_surface_layout.md R673). -/
def LayoutFormat.linearAddress (f : LayoutFormat) (base pitch x y : Nat) : ℚ :=
  Surface.linearAddress base pitch f.rowsPerMemoryRow f.bytesPerTexel x y

/-- The address of texel (u, v) of the LOD at `origin`, uncompressed and linear (48_surface_layout.md R674). -/
def texelAddress (base pitch bpp : Nat) (origin : Extent) (u v : Nat) : Nat :=
  base + (origin.y + v) * pitch + (origin.x + u) * bpp

/-- The address of the block that holds texel (u, v) of the LOD at `origin` (48_surface_layout.md R674). -/
def blockAddress (f : BlockFormat) (base pitch : Nat) (origin : Extent) (u v : Nat) : Nat :=
  base + (origin.y + v) / f.height * pitch + (origin.x + u) / f.width * f.bytes

/-- The blocks a mip level takes, "padded out to compression block boundaries" (48_surface_layout.md R676). -/
def blockGrid (f : BlockFormat) (w h : Nat) : Extent := ⟨ceilDiv w f.width, ceilDiv h f.height⟩

/-- "each mipmap must start on an even row", for a format that is not compressed (48_surface_layout.md R664). -/
def mipStartLegal (compressed : Bool) (row : Nat) : Bool := compressed || decide (row % 2 = 0)

/-- Vertical alignment of a mipmap in bytes: "1 DWord for linear, 16-byte (DQWord) for tiled"
(48_surface_layout.md R664). -/
def mipAlignment (tiled : Bool) : Nat := if tiled then 16 else 4

/-- Surface Array Spacing (48_surface_layout.md R678). -/
inductive ArraySpacing where
  | full
  | lod0
deriving DecidableEq, Repr

/-- The three cases of the QPitch equations (48_surface_layout.md R678). -/
inductive FormatClass where
  | uncompressed
  | compressed
  | separateStencil
deriving DecidableEq, Repr

/-- `QPITCH_PAD_ROWS`, 12 by default: section 6.18.4.3's two statements disagree
(48_surface_layout.md R677; 92_eei_decisions.md D19; log entry 39). -/
def qpitchPadRows : Nat := 12

/-- QPitch; none where the source gives no equation (48_surface_layout.md R678). -/
def qpitchWith (pad : Nat) (c : FormatClass) (s : ArraySpacing) (h0 h1 j : Nat) : Option Nat :=
  match s, c with
  | .full, .uncompressed => some (h0 + h1 + pad * j)
  | .full, .compressed => some ((h0 + h1 + pad * j) / 4)
  | .full, .separateStencil => some (h0 + h1 + pad * j / 2)
  | .lod0, .uncompressed => some h0
  | .lod0, .compressed => some (h0 / 4)
  | .lod0, .separateStencil => none

/-- QPitch with the default pad rows (48_surface_layout.md R678). -/
def qpitch (c : FormatClass) (s : ArraySpacing) (h0 h1 j : Nat) : Option Nat := qpitchWith qpitchPadRows c s h0 h1 j

/-- The row where slice `r` starts (48_surface_layout.md R677, R678). -/
def sliceRow (r q : Nat) : Nat := r * q

/-- "the depth buffer and stencil buffer have an implied value of ARYSPC_FULL": the field counts for the surfaces of
SURFACE_STATE (48_surface_layout.md R678). -/
def SurfaceKind.spacing (k : SurfaceKind) (field : ArraySpacing) : ArraySpacing :=
  match k with
  | .depthD16 => .full
  | .depthOther => .full
  | .stencil => .full
  | .blockCompressed => field
  | .fxt1 => field
  | .surfaceState _ _ => field

/-- The address of the block that holds texel (u, v) of slice `r`: `R * QPitch` is "added to the vertical component of the
address", in memory rows, which are rows of blocks for a compressed format (48_surface_layout.md R678). -/
def sliceAddress (f : BlockFormat) (base pitch q r : Nat) (origin : Extent) (u v : Nat) : Nat :=
  blockAddress f (base + sliceRow r q * pitch) pitch origin u v

/-- "six, square cube face texture surfaces" (48_surface_layout.md R682). -/
def cubeFaceLegal (width height : Nat) : Bool := decide (width = height)

/-- The six faces of a cube in the order of the array index (48_surface_layout.md R683). -/
inductive CubeFace where
  | posX
  | negX
  | posY
  | negY
  | posZ
  | negZ
deriving DecidableEq, Repr

/-- The array index of a face (48_surface_layout.md R683). -/
def CubeFace.index : CubeFace → Nat
  | .posX => 0
  | .negX => 1
  | .posY => 2
  | .negY => 3
  | .posZ => 4
  | .negZ => 5

/-- The slice of a face of cube `n` of a cube array (48_surface_layout.md R684). -/
def cubeSlice (n : Nat) (f : CubeFace) : Nat := 6 * n + f.index

/-- The rows the planes of LOD `l` of a volume take (48_surface_layout.md R686). -/
def volumeRows (u : AlignmentUnit) (height depth l : Nat) : Nat :=
  ceilDiv (mipSize depth l) (2 ^ l) * roundUp (mipSize height l) u.j

/-- The origin of plane `q` of LOD `l` of a volume (48_surface_layout.md R686). -/
def volumeOrigin (u : AlignmentUnit) (width height depth l q : Nat) : Extent :=
  ⟨q % 2 ^ l * roundUp (mipSize width l) u.i,
    ((List.range l).map (volumeRows u height depth)).sum + q / 2 ^ l * roundUp (mipSize height l) u.j⟩

/-- The minimum pitch of a volume in texels (48_surface_layout.md R687, DEDUCED by the spec). -/
def volumePitch (u : AlignmentUnit) (width depth last : Nat) : Nat :=
  ((List.range (last + 1)).map fun l => min (2 ^ l) (mipSize depth l) * roundUp (mipSize width l) u.i).foldl max 0

/-! ## Padding -/

/-- The extended surface (48_surface_layout.md R701). -/
def extended (u : AlignmentUnit) (w h : Nat) : Extent := ⟨roundUp w u.i, roundUp h u.j⟩

/-- The mapped bytes a buffer of `n` elements needs (48_surface_layout.md R702). -/
def bufferPaddedBytes (n pitch : Nat) : Nat := 256 * ceilDiv n 256 * pitch + 16

/-- "an additional two rows of padding are required at the bottom" of a cube surface (48_surface_layout.md R703). -/
def cubePaddedRows (rows : Nat) : Nat := rows + 2

/-- "these surfaces behave as if j = 8 only for surface padding purposes" (48_surface_layout.md R704). -/
def compressedExtended (u : AlignmentUnit) (w h : Nat) : Extent := extended { u with j := 8 } w h

/-- "an extra row plus 16 bytes" for YUV, 96 bpt and 48 bpt formats (48_surface_layout.md R705). -/
def yuvPaddedBytes (rows pitch : Nat) : Nat := (rows + 1) * pitch + 16

/-- Rows a render target or media surface is allocated (48_surface_layout.md R706). -/
def renderTargetRows (h : Nat) (fieldMode : Bool) : Nat := if fieldMode then 4 * ceilDiv h 4 else h + h % 2

/-! ## The parameters of an access -/

/-- Who reads a surface: the sampling engine, or the data port, in field mode or not (48_surface_layout.md R700, R706). -/
inductive Reader where
  | samplingEngine
  | dataPort (fieldMode : Bool)
deriving DecidableEq, Repr

/-- How the maps of an image are stacked: slices of an array (one for a plain 2D surface), cubes, or the planes of a
volume (48_surface_layout.md R678, R684, R685). -/
inductive Stacking where
  | array (slices : Nat) (spacing : ArraySpacing)
  | cube (cubes : Nat) (spacing : ArraySpacing)
  | volume (depth : Nat)
deriving DecidableEq, Repr

/-- A linear 2D, array, cube or volume surface: `samples` is 1, or the number of interleaved samples
(48_surface_layout.md R666, R681), `lods` the number of mip levels, `pitch` in bytes. -/
structure Image where
  format : LayoutFormat
  kind : SurfaceKind
  mode : MipMode
  pitch : Nat
  width : Nat
  height : Nat
  lods : Nat
  samples : Nat
  stacking : Stacking
deriving DecidableEq, Repr

/-- A 1D surface: "Surface Pitch is ignored"; `qpitch` in pixels (48_surface_layout.md R663). -/
structure Line where
  bytesPerPixel : Nat
  width : Nat
  alignment : LineAlignment
  lods : Nat
  slices : Nat
  qpitch : Nat
deriving DecidableEq, Repr

/-- The surface types of the layout rules (48_surface_layout.md R661 to R664). A structured buffer has "only one dimension
programmed in SURFACE_STATE which indicates the array size", and its format is RAW or another (R662). -/
inductive Shape where
  | buffer (elements pitch : Nat)
  | structured (elements pitch : Nat) (raw : Bool)
  | line (l : Line)
  | image (i : Image)
deriving DecidableEq, Repr

/-- What a reader asks for: bytes of a structure of a buffer; the DWord at a byte offset of a buffer of format RAW
(45_channel_formats.md R543); the DWord at byte `v` of structure `u` of a structured buffer (48_surface_layout.md R662); a
pixel of a 1D surface; a texel of an image. -/
inductive Coordinate where
  | element (n offset bytes : Nat)
  | raw (offset : Nat)
  | dword (u v : Nat)
  | pixel (slice lod u : Nat)
  | texel (slice lod u v : Nat)
deriving DecidableEq, Repr

/-- One surface access. -/
structure Access where
  reader : Reader
  base : GraphicsAddress
  shape : Shape
  coordinate : Coordinate
deriving DecidableEq, Repr

end Sys2Proof.Surface
end

