-- ==== Sys2Proof/Syntax.lean ====
section
/-! DEFINITION. The commands of the three parsers: one constructor per row of the opcode table, every bit of
the command in a field (30_encoding.md R140 to R166, 40_common_commands.md). -/

namespace Sys2Proof

/-- The agents that fetch and parse commands (10_state.md R30). -/
inductive Engine where
  | render
  | video
  | blitter
deriving DecidableEq, Repr

/-- `DW0[15:0]` of a common command with a DWord Length (30_encoding.md R146). -/
structure LenHeader where
  reserved : BitVec 8
  dwordLength : BitVec 8
deriving DecidableEq, Repr

/-- DW1 of STATE_BASE_ADDRESS (40_common_commands.md R201). -/
structure SbaGeneral where
  base : BitVec 20
  mocs : BitVec 4
  dataPortMocs : BitVec 4
  forceWriteThru : BitVec 1
  reserved : BitVec 2
  modifyEnable : BitVec 1
deriving DecidableEq, Repr

/-- DW2 to DW5 of STATE_BASE_ADDRESS (40_common_commands.md R201). -/
structure SbaBase where
  base : BitVec 20
  mocs : BitVec 4
  reserved : BitVec 7
  modifyEnable : BitVec 1
deriving DecidableEq, Repr

/-- DW6 to DW9 of STATE_BASE_ADDRESS (40_common_commands.md R201). -/
structure SbaBound where
  bound : BitVec 20
  reserved : BitVec 11
  modifyEnable : BitVec 1
deriving DecidableEq, Repr

/-- The commands. A command whose DWords are not in the source carries the header bits below its opcode
as `data` (30_encoding.md R160). -/
inductive Instr where
  /-- PIPELINE_SELECT, R190: match 0x69040000. -/
  | pipelineSelect (reserved : BitVec 14) (select : BitVec 2)
  /-- STATE_BASE_ADDRESS, R201: match 0x61010000. -/
  | stateBaseAddress (header : LenHeader) (general : SbaGeneral)
      (surface dynamicState indirectObject instruction : SbaBase)
      (generalBound dynamicBound indirectBound instructionBound : SbaBound)
  /-- STATE_SIP, R225: match 0x61020000. -/
  | stateSip (header : LenHeader) (sip : BitVec 28) (reserved : BitVec 4)
  /-- SWTESS_BASE_ADDRESS, R215: match 0x61030000. -/
  | swtessBaseAddress (header : LenHeader) (base : BitVec 20) (mocs : BitVec 4) (reserved : BitVec 8)
  /-- GPGPU_CSR_BASE_ADDRESS, R228: match 0x61040000. -/
  | gpgpuCsrBaseAddress (data : BitVec 16)
  /-- STATE_PREFETCH, R220: match 0x60030000. -/
  | statePrefetch (header : LenHeader) (pointer : BitVec 26) (reserved : BitVec 3) (count : BitVec 3)
  /-- MI_NOOP, R230: match 0x00000000. -/
  | miNoop (data : BitVec 23)
  /-- MI_USER_INTERRUPT, R231: match 0x01000000. -/
  | miUserInterrupt (data : BitVec 23)
  /-- MI_WAIT_FOR_EVENT, R232: match 0x01800000. -/
  | miWaitForEvent (data : BitVec 23)
  /-- MI_OPCODE_04h_UNNAMED, R233: match 0x02000000. -/
  | miOpcode04hUnnamed (data : BitVec 23)
  /-- MI_ARB_CHECK, R234: match 0x02800000. -/
  | miArbCheck (data : BitVec 23)
  /-- MI_REPORT_HEAD, R235: match 0x03800000. -/
  | miReportHead (data : BitVec 23)
  /-- MI_ARB_ON_OFF, R236: match 0x04000000. -/
  | miArbOnOff (data : BitVec 23)
  /-- MI_BATCH_BUFFER_END, R237: match 0x05000000. -/
  | miBatchBufferEnd (data : BitVec 23)
  /-- MI_SUSPEND_FLUSH, R238: match 0x05800000. -/
  | miSuspendFlush (data : BitVec 23)
  /-- MI_PREDICATE, R239: match 0x06000000. -/
  | miPredicate (data : BitVec 23)
  /-- MI_TOPOLOGY_FILTER, R240: match 0x06800000. -/
  | miTopologyFilter (data : BitVec 23)
  /-- MI_SET_APPID, R241: match 0x07000000. -/
  | miSetAppid (data : BitVec 23)
  /-- MI_DISPLAY_FLIP, R242: match 0x0A000000. -/
  | miDisplayFlip (data : BitVec 23)
  /-- MI_SEMAPHORE_MBOX, R243: match 0x0B000000. -/
  | miSemaphoreMbox (data : BitVec 23)
  /-- MI_SET_CONTEXT, R244: match 0x0C000000. -/
  | miSetContext (data : BitVec 23)
  /-- MI_MATH, R245: match 0x0D000000. -/
  | miMath (data : BitVec 23)
  /-- MI_STORE_DATA_IMM, R246: match 0x10000000. -/
  | miStoreDataImm (data : BitVec 23)
  /-- MI_STORE_DATA_INDEX, R247: match 0x10800000. -/
  | miStoreDataIndex (data : BitVec 23)
  /-- MI_LOAD_REGISTER_IMM, R248: match 0x11000000. -/
  | miLoadRegisterImm (data : BitVec 23)
  /-- MI_UPDATE_GTT, R249: match 0x11800000. -/
  | miUpdateGtt (data : BitVec 23)
  /-- MI_STORE_REGISTER_MEM, R250: match 0x12000000. -/
  | miStoreRegisterMem (data : BitVec 23)
  /-- MI_FLUSH_DW, R251: match 0x13000000. -/
  | miFlushDw (data : BitVec 23)
  /-- MI_CLFLUSH, R252: match 0x13800000. -/
  | miClflush (data : BitVec 23)
  /-- MI_REPORT_PERF_COUNT, R253: match 0x14000000. -/
  | miReportPerfCount (data : BitVec 23)
  /-- MI_LOAD_REGISTER_MEM, R254: match 0x14800000. -/
  | miLoadRegisterMem (data : BitVec 23)
  /-- MI_BATCH_BUFFER_START, R255: match 0x18800000. -/
  | miBatchBufferStart (data : BitVec 23)
  /-- MI_CONDITIONAL_BATCH_BUFFER_END, R256: match 0x1B000000. -/
  | miConditionalBatchBufferEnd (data : BitVec 23)
  /-- XY_SETUP_BLT, R281: match 0x40400000. -/
  | xySetupBlt (data : BitVec 22)
  /-- XY_SETUP_CLIP_BLT, R282: match 0x40C00000. -/
  | xySetupClipBlt (data : BitVec 22)
  /-- XY_SETUP_MONO_PATTERN_SL_BLT, R283: match 0x44400000. -/
  | xySetupMonoPatternSlBlt (data : BitVec 22)
  /-- XY_PIXEL_BLT, R284: match 0x49000000. -/
  | xyPixelBlt (data : BitVec 22)
  /-- XY_SCANLINES_BLT, R285: match 0x49400000. -/
  | xyScanlinesBlt (data : BitVec 22)
  /-- XY_TEXT_BLT, R286: match 0x49800000. -/
  | xyTextBlt (data : BitVec 22)
  /-- XY_TEXT_IMMEDIATE_BLT, R287: match 0x4C400000. -/
  | xyTextImmediateBlt (data : BitVec 22)
  /-- COLOR_BLT, R288: match 0x50000000. -/
  | colorBlt (data : BitVec 22)
  /-- SRC_COPY_BLT, R289: match 0x50C00000. -/
  | srcCopyBlt (data : BitVec 22)
  /-- XY_COLOR_BLT, R290: match 0x54000000. -/
  | xyColorBlt (data : BitVec 22)
  /-- XY_PAT_BLT, R291: match 0x54400000. -/
  | xyPatBlt (data : BitVec 22)
  /-- XY_MONO_PAT_BLT, R292: match 0x54800000. -/
  | xyMonoPatBlt (data : BitVec 22)
  /-- XY_SRC_COPY_BLT, R293: match 0x54C00000. -/
  | xySrcCopyBlt (data : BitVec 22)
  /-- XY_MONO_SRC_COPY_BLT, R294: match 0x55000000. -/
  | xyMonoSrcCopyBlt (data : BitVec 22)
  /-- XY_FULL_BLT, R295: match 0x55400000. -/
  | xyFullBlt (data : BitVec 22)
  /-- XY_FULL_MONO_SRC_BLT, R296: match 0x55800000. -/
  | xyFullMonoSrcBlt (data : BitVec 22)
  /-- XY_FULL_MONO_PATTERN_BLT, R297: match 0x55C00000. -/
  | xyFullMonoPatternBlt (data : BitVec 22)
  /-- XY_FULL_MONO_PATTERN_MONO_SRC_BLT, R298: match 0x56000000. -/
  | xyFullMonoPatternMonoSrcBlt (data : BitVec 22)
  /-- XY_MONO_PAT_FIXED_BLT, R299: match 0x56400000. -/
  | xyMonoPatFixedBlt (data : BitVec 22)
  /-- XY_MONO_SRC_COPY_IMMEDIATE_BLT, R300: match 0x5C400000. -/
  | xyMonoSrcCopyImmediateBlt (data : BitVec 22)
  /-- XY_PAT_BLT_IMMEDIATE, R301: match 0x5C800000. -/
  | xyPatBltImmediate (data : BitVec 22)
  /-- XY_SRC_COPY_CHROMA_BLT, R302: match 0x5CC00000. -/
  | xySrcCopyChromaBlt (data : BitVec 22)
  /-- XY_FULL_IMMEDIATE_PATTERN_BLT, R303: match 0x5D000000. -/
  | xyFullImmediatePatternBlt (data : BitVec 22)
  /-- XY_FULL_MONO_SRC_IMMEDIATE_PATTERN_BLT, R304: match 0x5D400000. -/
  | xyFullMonoSrcImmediatePatternBlt (data : BitVec 22)
  /-- XY_PAT_CHROMA_BLT, R305: match 0x5D800000. -/
  | xyPatChromaBlt (data : BitVec 22)
  /-- XY_PAT_CHROMA_BLT_IMMEDIATE, R306: match 0x5DC00000. -/
  | xyPatChromaBltImmediate (data : BitVec 22)
  /-- 3DSTATE_CLEAR_PARAMS, R322: match 0x78040000. -/
  | state3dClearParams (data : BitVec 16)
  /-- 3DSTATE_DEPTH_BUFFER, R323: match 0x78050000. -/
  | state3dDepthBuffer (data : BitVec 16)
  /-- 3DSTATE_STENCIL_BUFFER, R324: match 0x78060000. -/
  | state3dStencilBuffer (data : BitVec 16)
  /-- 3DSTATE_HIER_DEPTH_BUFFER, R325: match 0x78070000. -/
  | state3dHierDepthBuffer (data : BitVec 16)
  /-- 3DSTATE_VERTEX_BUFFERS, R326: match 0x78080000. -/
  | state3dVertexBuffers (data : BitVec 16)
  /-- 3DSTATE_VERTEX_ELEMENTS, R327: match 0x78090000. -/
  | state3dVertexElements (data : BitVec 16)
  /-- 3DSTATE_INDEX_BUFFER, R328: match 0x780A0000. -/
  | state3dIndexBuffer (data : BitVec 16)
  /-- 3DSTATE_VF_STATISTICS, R329: match 0x780B0000. -/
  | state3dVfStatistics (data : BitVec 16)
  /-- 3DSTATE_VIEWPORT_STATE_POINTERS, R330: match 0x780D0000. -/
  | state3dViewportStatePointers (data : BitVec 16)
  /-- 3DSTATE_VS, R331: match 0x78100000. -/
  | state3dVs (data : BitVec 16)
  /-- 3DSTATE_GS, R332: match 0x78110000. -/
  | state3dGs (data : BitVec 16)
  /-- 3DSTATE_CLIP, R333: match 0x78120000. -/
  | state3dClip (data : BitVec 16)
  /-- 3DSTATE_SF, R334: match 0x78130000. -/
  | state3dSf (data : BitVec 16)
  /-- 3DSTATE_WM, R335: match 0x78140000. -/
  | state3dWm (data : BitVec 16)
  /-- 3DSTATE_CONSTANT_VS, R336: match 0x78150000. -/
  | state3dConstantVs (data : BitVec 16)
  /-- 3DSTATE_CONSTANT_GS, R337: match 0x78160000. -/
  | state3dConstantGs (data : BitVec 16)
  /-- 3DSTATE_CONSTANT_PS, R338: match 0x78170000. -/
  | state3dConstantPs (data : BitVec 16)
  /-- 3DSTATE_SAMPLE_MASK, R339: match 0x78180000. -/
  | state3dSampleMask (data : BitVec 16)
  /-- 3DSTATE_CONSTANT_HS, R340: match 0x78190000. -/
  | state3dConstantHs (data : BitVec 16)
  /-- 3DSTATE_CONSTANT_DS, R341: match 0x781A0000. -/
  | state3dConstantDs (data : BitVec 16)
  /-- 3DSTATE_HS, R342: match 0x781B0000. -/
  | state3dHs (data : BitVec 16)
  /-- 3DSTATE_TE, R343: match 0x781C0000. -/
  | state3dTe (data : BitVec 16)
  /-- 3DSTATE_DS, R344: match 0x781D0000. -/
  | state3dDs (data : BitVec 16)
  /-- 3DSTATE_STREAMOUT, R345: match 0x781E0000. -/
  | state3dStreamout (data : BitVec 16)
  /-- 3DSTATE_SBE, R346: match 0x781F0000. -/
  | state3dSbe (data : BitVec 16)
  /-- 3DSTATE_PS, R347: match 0x78200000. -/
  | state3dPs (data : BitVec 16)
  /-- 3DSTATE_VIEWPORT_STATE_POINTERS_SF_CLIP, R348: match 0x78220000. -/
  | state3dViewportStatePointersSfClip (data : BitVec 16)
  /-- 3DSTATE_VIEWPORT_STATE_POINTERS_CC, R349: match 0x78230000. -/
  | state3dViewportStatePointersCc (data : BitVec 16)
  /-- 3DSTATE_BLEND_STATE_POINTERS, R350: match 0x78240000. -/
  | state3dBlendStatePointers (data : BitVec 16)
  /-- 3DSTATE_DEPTH_STENCIL_STATE_POINTERS, R351: match 0x78250000. -/
  | state3dDepthStencilStatePointers (data : BitVec 16)
  /-- 3DSTATE_BINDING_TABLE_POINTERS_VS, R352: match 0x78260000. -/
  | state3dBindingTablePointersVs (data : BitVec 16)
  /-- 3DSTATE_BINDING_TABLE_POINTERS_HS, R353: match 0x78270000. -/
  | state3dBindingTablePointersHs (data : BitVec 16)
  /-- 3DSTATE_BINDING_TABLE_POINTERS_DS, R354: match 0x78280000. -/
  | state3dBindingTablePointersDs (data : BitVec 16)
  /-- 3DSTATE_BINDING_TABLE_POINTERS_GS, R355: match 0x78290000. -/
  | state3dBindingTablePointersGs (data : BitVec 16)
  /-- 3DSTATE_BINDING_TABLE_POINTERS_PS, R356: match 0x782A0000. -/
  | state3dBindingTablePointersPs (data : BitVec 16)
  /-- 3DSTATE_SAMPLER_STATE_POINTERS_VS, R357: match 0x782B0000. -/
  | state3dSamplerStatePointersVs (data : BitVec 16)
  /-- 3DSTATE_SAMPLER_STATE_POINTERS_HS, R358: match 0x782C0000. -/
  | state3dSamplerStatePointersHs (data : BitVec 16)
  /-- 3DSTATE_SAMPLER_STATE_POINTERS_DS, R359: match 0x782D0000. -/
  | state3dSamplerStatePointersDs (data : BitVec 16)
  /-- 3DSTATE_SAMPLER_STATE_POINTERS_GS, R360: match 0x782E0000. -/
  | state3dSamplerStatePointersGs (data : BitVec 16)
  /-- 3DSTATE_URB_VS, R361: match 0x78300000. -/
  | state3dUrbVs (data : BitVec 16)
  /-- 3DSTATE_URB_HS, R362: match 0x78310000. -/
  | state3dUrbHs (data : BitVec 16)
  /-- 3DSTATE_URB_DS, R363: match 0x78320000. -/
  | state3dUrbDs (data : BitVec 16)
  /-- 3DSTATE_URB_GS, R364: match 0x78330000. -/
  | state3dUrbGs (data : BitVec 16)
  /-- 3DSTATE_WM_CHROMA_KEY, R365: match 0x784C0000. -/
  | state3dWmChromaKey (data : BitVec 16)
  /-- 3DSTATE_PS_BLEND, R366: match 0x784D0000. -/
  | state3dPsBlend (data : BitVec 16)
  /-- 3DSTATE_WM_DEPTH_STENCIL, R367: match 0x784E0000. -/
  | state3dWmDepthStencil (data : BitVec 16)
  /-- 3DSTATE_PS_EXTRA, R368: match 0x784F0000. -/
  | state3dPsExtra (data : BitVec 16)
  /-- 3DSTATE_RASTER, R369: match 0x78500000. -/
  | state3dRaster (data : BitVec 16)
  /-- 3DSTATE_SBE_SWIZ, R370: match 0x78510000. -/
  | state3dSbeSwiz (data : BitVec 16)
  /-- 3DSTATE_WM_HZ_OP, R371: match 0x78520000. -/
  | state3dWmHzOp (data : BitVec 16)
  /-- 3DSTATE_INT, R372: match 0x78530000. -/
  | state3dInt (data : BitVec 16)
  /-- 3DSTATE_DRAWING_RECTANGLE, R373: match 0x79000000. -/
  | state3dDrawingRectangle (data : BitVec 16)
  /-- 3DSTATE_SAMPLER_PALETTE_LOAD0, R374: match 0x79020000. -/
  | state3dSamplerPaletteLoad0 (data : BitVec 16)
  /-- 3DSTATE_CHROMA_KEY, R375: match 0x79040000. -/
  | state3dChromaKey (data : BitVec 16)
  /-- 3DSTATE_POLY_STIPPLE_OFFSET, R376: match 0x79060000. -/
  | state3dPolyStippleOffset (data : BitVec 16)
  /-- 3DSTATE_POLY_STIPPLE_PATTERN, R377: match 0x79070000. -/
  | state3dPolyStipplePattern (data : BitVec 16)
  /-- 3DSTATE_LINE_STIPPLE, R378: match 0x79080000. -/
  | state3dLineStipple (data : BitVec 16)
  /-- 3DSTATE_AA_LINE_PARAMS, R379: match 0x790A0000. -/
  | state3dAaLineParams (data : BitVec 16)
  /-- 3DSTATE_GS_SVB_INDEX, R380: match 0x790B0000. -/
  | state3dGsSvbIndex (data : BitVec 16)
  /-- 3DSTATE_SAMPLER_PALETTE_LOAD1, R381: match 0x790C0000. -/
  | state3dSamplerPaletteLoad1 (data : BitVec 16)
  /-- 3DSTATE_MULTISAMPLE, R382: match 0x790D0000. -/
  | state3dMultisample (data : BitVec 16)
  /-- 3DSTATE_STENCIL_BUFFER, R383: match 0x790E0000. -/
  | state3dStencilBufferNp (data : BitVec 16)
  /-- 3DSTATE_HIER_DEPTH_BUFFER, R384: match 0x790F0000. -/
  | state3dHierDepthBufferNp (data : BitVec 16)
  /-- 3DSTATE_CLEAR_PARAMS, R385: match 0x79100000. -/
  | state3dClearParamsNp (data : BitVec 16)
  /-- 3DSTATE_MONOFILTER_SIZE, R386: match 0x79110000. -/
  | state3dMonofilterSize (data : BitVec 16)
  /-- 3DSTATE_PUSH_CONSTANT_ALLOC_VS, R387: match 0x79120000. -/
  | state3dPushConstantAllocVs (data : BitVec 16)
  /-- 3DSTATE_PUSH_CONSTANT_ALLOC_HS, R388: match 0x79130000. -/
  | state3dPushConstantAllocHs (data : BitVec 16)
  /-- 3DSTATE_PUSH_CONSTANT_ALLOC_DS, R389: match 0x79140000. -/
  | state3dPushConstantAllocDs (data : BitVec 16)
  /-- 3DSTATE_PUSH_CONSTANT_ALLOC_GS, R390: match 0x79150000. -/
  | state3dPushConstantAllocGs (data : BitVec 16)
  /-- 3DSTATE_PUSH_CONSTANT_ALLOC_PS, R391: match 0x79160000. -/
  | state3dPushConstantAllocPs (data : BitVec 16)
  /-- 3DSTATE_SO_DECL_LIST, R392: match 0x79170000. -/
  | state3dSoDeclList (data : BitVec 16)
  /-- 3DSTATE_SO_BUFFER, R393: match 0x79180000. -/
  | state3dSoBuffer (data : BitVec 16)
  /-- 3DSTATE_SAMPLE_PATTERN, R394: match 0x791C0000. -/
  | state3dSamplePattern (data : BitVec 16)
  /-- 3DSTATE_URB_CLEAR, R395: match 0x791D0000. -/
  | state3dUrbClear (data : BitVec 16)
  /-- PIPE_CONTROL, R420: match 0x7A000000. -/
  | pipeControl (data : BitVec 16)
  /-- 3DPRIMITIVE, R421: match 0x7B000000. -/
  | primitive3d (data : BitVec 16)
  /-- MFX_PIPE_MODE_SELECT, R451: match 0x70000000. -/
  | mfxPipeModeSelect (data : BitVec 16)
  /-- MFX_SURFACE_STATE, R452: match 0x70010000. -/
  | mfxSurfaceState (data : BitVec 16)
  /-- MFX_PIPE_BUF_ADDR_STATE, R453: match 0x70020000. -/
  | mfxPipeBufAddrState (data : BitVec 16)
  /-- MFX_IND_OBJ_BASE_ADDR_STATE, R454: match 0x70030000. -/
  | mfxIndObjBaseAddrState (data : BitVec 16)
  /-- MFX_BSP_BUF_BASE_ADDR_STATE, R455: match 0x70040000. -/
  | mfxBspBufBaseAddrState (data : BitVec 16)
  /-- MFX_0_0_5_UNNAMED, R456: match 0x70050000. -/
  | mfx005Unnamed (data : BitVec 16)
  /-- MFX_STATE_POINTER, R457: match 0x70060000. -/
  | mfxStatePointer (data : BitVec 16)
  /-- MFD_IT_OBJECT, R458: match 0x70290000. -/
  | mfdItObject (data : BitVec 16)
  /-- MFX_AVC_IMG_STATE, R459: match 0x71000000. -/
  | mfxAvcImgState (data : BitVec 16)
  /-- MFX_AVC_QM_STATE, R460: match 0x71010000. -/
  | mfxAvcQmState (data : BitVec 16)
  /-- MFX_AVC_DIRECTMODE_STATE, R461: match 0x71020000. -/
  | mfxAvcDirectmodeState (data : BitVec 16)
  /-- MFX_AVC_SLICE_STATE, R462: match 0x71030000. -/
  | mfxAvcSliceState (data : BitVec 16)
  /-- MFX_AVC_REF_IDX_STATE, R463: match 0x71040000. -/
  | mfxAvcRefIdxState (data : BitVec 16)
  /-- MFX_AVC_WEIGHTOFFSET_STATE, R464: match 0x71050000. -/
  | mfxAvcWeightoffsetState (data : BitVec 16)
  /-- MFD_AVC_BSD_OBJECT, R465: match 0x71280000. -/
  | mfdAvcBsdObject (data : BitVec 16)
  /-- MFC_AVC_FQM_STATE, R466: match 0x71420000. -/
  | mfcAvcFqmState (data : BitVec 16)
  /-- MFC_AVC_PAK_INSERT_OBJECT, R467: match 0x71480000. -/
  | mfcAvcPakInsertObject (data : BitVec 16)
  /-- MFC_AVC_PAK_OBJECT, R468: match 0x71490000. -/
  | mfcAvcPakObject (data : BitVec 16)
  /-- MFX_VC1_PIC_STATE, R469: match 0x72000000. -/
  | mfxVc1PicState (data : BitVec 16)
  /-- MFX_VC1_PRED_PIPE_STATE, R470: match 0x72010000. -/
  | mfxVc1PredPipeState (data : BitVec 16)
  /-- MFX_VC1_DIRECTMODE_STATE, R471: match 0x72020000. -/
  | mfxVc1DirectmodeState (data : BitVec 16)
  /-- MFD_VC1_BSD_OBJECT, R472: match 0x72280000. -/
  | mfdVc1BsdObject (data : BitVec 16)
  /-- MFX_MPEG2_PIC_STATE, R473: match 0x73000000. -/
  | mfxMpeg2PicState (data : BitVec 16)
  /-- MFX_MPEG2_QM_STATE, R474: match 0x73010000. -/
  | mfxMpeg2QmState (data : BitVec 16)
  /-- MFD_MPEG2_BSD_OBJECT, R475: match 0x73280000. -/
  | mfdMpeg2BsdObject (data : BitVec 16)
  /-- MFX_SINGLE_DW_UNNAMED, R477: match 0x68000000. -/
  | mfxSingleDwUnnamed
  /-- MEDIA_SUBTYPE_2H_UNMAPPED, R401: match 0x70000000. -/
  | mediaSubtype2hUnmapped (data : BitVec 27)
deriving DecidableEq, Repr

end Sys2Proof
end

