-- ==== Sys2Proof/Machine/State.lean ====
section
/-! DEFINITION. The state of the machine as plain data, all that the spec names (10_state.md), the reasons a
step can stop (60_exceptions.md R765, R770), and the state after reset (70_reset_and_hazards.md R801). -/

namespace Sys2Proof.Machine

/-- A state variable of the GPE: `unset` until a command writes it (10_state.md R84). -/
inductive SVar (w : Nat) where
  | unset
  | holds (v : BitVec w)
deriving DecidableEq, Repr

/-- Ring buffer state of one parser (10_state.md R41): byte offsets from `start`. -/
structure Ring where
  start : GraphicsAddress
  length : Nat
  head : Nat
  tail : Nat
  valid : Bool
deriving DecidableEq, Repr

/-- Batch buffer state of one parser (10_state.md R42). -/
structure BatchBuffer where
  active : Bool
  head : GraphicsAddress
deriving DecidableEq, Repr

/-- What a translation table gives for a page: the physical page and the GFDT bit (20_memory.md R97, R98). "The width of a
physical address is not in the source" (R91): a physical page is a natural number without a bound
(DESIGN CHOICE, log entry 48). -/
structure PageEntry where
  page : Nat
  gfdt : Bool
deriving DecidableEq, Repr

/-- The sizes a translation table can have (20_memory.md R96): 64 KB only for the per-process table. -/
inductive TableSize where
  | kb64
  | kb128
  | kb256
  | kb512
deriving DecidableEq, Repr

/-- A translation table: its size, and for each mapped page number its entry, page numbers rising
(20_memory.md R96 to R98; log entry 9). -/
structure PageTable where
  size : TableSize
  entries : List (Nat × PageEntry)
deriving DecidableEq, Repr

/-- Which table an access goes through (20_memory.md R96, R98). -/
inductive TableSelect where
  | global
  | perProcess
deriving DecidableEq, Repr

/-- One command parser: its ring, its batch buffer, the table its accesses use, its per-process table and the
page of its per-process hardware status page (10_state.md R41, R42; 20_memory.md R98; 49_logical_context.md R750). -/
structure Parser where
  ring : Ring
  bb : BatchBuffer
  table : TableSelect
  ppgtt : PageTable
  statusPage : BitVec 20
deriving DecidableEq, Repr

/-- The state variables the defined commands write (10_state.md R50 to R55). -/
structure Gpe where
  pipelineSelect : SVar 2
  generalStateBase : SVar 20
  surfaceStateBase : SVar 20
  dynamicStateBase : SVar 20
  indirectObjectBase : SVar 20
  instructionBase : SVar 20
  generalStateMocs : SVar 4
  statelessDataPortMocs : SVar 4
  surfaceStateMocs : SVar 4
  dynamicStateMocs : SVar 4
  indirectObjectMocs : SVar 4
  instructionMocs : SVar 4
  forceWriteThru : SVar 1
  generalStateBound : SVar 20
  dynamicStateBound : SVar 20
  indirectObjectBound : SVar 20
  instructionBound : SVar 20
  swTessBase : SVar 20
  swTessMocs : SVar 4
  sip : SVar 28
deriving DecidableEq, Repr

/-- State that commands without a body write, or that the ordering rules name: held as opaque DWords
(10_state.md R56, R57, R69, R81; 49_logical_context.md R740; log entry 25). -/
inductive OpaqueItem where
  | numberOfUrbEntries
  | urbEntryAllocationSize
  | maxThreadsGs
  | maxThreadsClip
  | urbAllocation
  | urbFences
  | curbe
  | samplerPalette0
  | samplerPalette1
  | chromaKeys
  | gpgpuCsrBase
  | pipelinedPointers
  | mediaStatePointers
  | bindingTablePointers
  /-- What plain 3DSTATE_VIEWPORT_STATE_POINTERS sets (43_3d_commands.md R330). -/
  | viewportStatePointers
  /-- 3DSTATE_CC_POINTERS of the reissue list (40_common_commands.md R211): whether it is 3DSTATE_CC_STATE_POINTERS is not
  in the source (43_3d_commands.md R411), so it is an item of its own (log entry 25). -/
  | ccPointers
  /-- MI_TOPOLOGY_FILTER: 1 DWords in the render context image. -/
  | miTopologyFilter
  /-- MI_URB_CLEAR: 2 DWords in the render context image. -/
  | miUrbClear
  /-- MI_SET_APPID (printed "- 1"): 1 DWords in the render context image. -/
  | miSetAppid
  /-- 3DSTATE_PUSH_CONSTANT_ALLOC_VS: 2 DWords in the render context image. -/
  | saved3dPushConstantAllocVs
  /-- 3DSTATE_PUSH_CONSTANT_ALLOC_HS: 2 DWords in the render context image. -/
  | saved3dPushConstantAllocHs
  /-- 3DSTATE_PUSH_CONSTANT_ALLOC_DS: 2 DWords in the render context image. -/
  | saved3dPushConstantAllocDs
  /-- 3DSTATE_PUSH_CONSTANT_ALLOC_GS: 2 DWords in the render context image. -/
  | saved3dPushConstantAllocGs
  /-- 3DSTATE_PUSH_CONSTANT_ALLOC_PS: 2 DWords in the render context image. -/
  | saved3dPushConstantAllocPs
  /-- 3DSTATE_VS: 6 DWords in the render context image. -/
  | saved3dVs
  /-- 3DSTATE_BINDING_TABLE_POINTERS_VS: 2 DWords in the render context image. -/
  | saved3dBindingTablePointersVs
  /-- 3DSTATE_SAMPLER_STATE_POINTERS_VS: 2 DWords in the render context image. -/
  | saved3dSamplerStatePointersVs
  /-- 3DSTATE_CONSTANT_VS: 7 DWords in the render context image. -/
  | saved3dConstantVs
  /-- 3DSTATE_URB_VS: 2 DWords in the render context image. -/
  | saved3dUrbVs
  /-- 3DSTATE_HS: 7 DWords in the render context image. -/
  | saved3dHs
  /-- 3DSTATE_BINDING_TABLE_POINTERS_HS: 2 DWords in the render context image. -/
  | saved3dBindingTablePointersHs
  /-- 3DSTATE_SAMPLER_STATE_POINTERS_HS: 2 DWords in the render context image. -/
  | saved3dSamplerStatePointersHs
  /-- 3DSTATE_CONSTANT_HS: 7 DWords in the render context image. -/
  | saved3dConstantHs
  /-- 3DSTATE_URB_HS: 2 DWords in the render context image. -/
  | saved3dUrbHs
  /-- 3DSTATE_TE: 4 DWords in the render context image. -/
  | saved3dTe
  /-- 3DSTATE_DS: 6 DWords in the render context image. -/
  | saved3dDs
  /-- 3DSTATE_BINDING_TABLE_POINTERS_DS: 2 DWords in the render context image. -/
  | saved3dBindingTablePointersDs
  /-- 3DSTATE_SAMPLER_STATE_POINTERS_DS: 2 DWords in the render context image. -/
  | saved3dSamplerStatePointersDs
  /-- 3DSTATE_CONSTANT_DS: 7 DWords in the render context image. -/
  | saved3dConstantDs
  /-- 3DSTATE_URB_DS: 2 DWords in the render context image. -/
  | saved3dUrbDs
  /-- 3DSTATE_GS: 7 DWords in the render context image. -/
  | saved3dGs
  /-- 3DSTATE_BINDING_TABLE_POINTERS_GS: 2 DWords in the render context image. -/
  | saved3dBindingTablePointersGs
  /-- 3DSTATE_SAMPLER_STATE_POINTERS_GS: 2 DWords in the render context image. -/
  | saved3dSamplerStatePointersGs
  /-- 3DSTATE_CONSTANT_GS: 7 DWords in the render context image. -/
  | saved3dConstantGs
  /-- 3DSTATE_URB_GS: 2 DWords in the render context image. -/
  | saved3dUrbGs
  /-- 3DSTATE_STREAMOUT: 3 DWords in the render context image. -/
  | saved3dStreamout
  /-- 3DSTATE_CLIP: 4 DWords in the render context image. -/
  | saved3dClip
  /-- 3DSTATE_VIEWPORT_STATE_POINTERS_CL_SF: 2 DWords in the render context image. -/
  | saved3dViewportStatePointersClSf
  /-- 3DSTATE_SF: 7 DWords in the render context image. -/
  | saved3dSf
  /-- 3DSTATE_SCISSOR_STATE_POINTERS: 2 DWords in the render context image. -/
  | saved3dScissorStatePointers
  /-- 3DSTATE_MULTISAMPLE: 4 DWords in the render context image. -/
  | saved3dMultisample
  /-- 3DSTATE_DRAWING_RECTANGLE: 4 DWords in the render context image. -/
  | saved3dDrawingRectangle
  /-- 3DSTATE_WM: 3 DWords in the render context image. -/
  | saved3dWm
  /-- 3DSTATE_VIEWPORT_STATE_POINTERS_CC: 2 DWords in the render context image. -/
  | saved3dViewportStatePointersCc
  /-- 3DSTATE_CC_STATE_POINTERS: 2 DWords in the render context image. -/
  | saved3dCcStatePointers
  /-- 3DSTATE_DEPTHSTENCIL_STATE_POINTERS: 2 DWords in the render context image. -/
  | saved3dDepthstencilStatePointers
  /-- 3DSTATE_SAMPLE_MASK: 2 DWords in the render context image. -/
  | saved3dSampleMask
  /-- 3DSTATE_SBE: 14 DWords in the render context image. -/
  | saved3dSbe
  /-- 3DSTATE_CONSTANT_PS: 7 DWords in the render context image. -/
  | saved3dConstantPs
  /-- 3DSTATE_PS: 8 DWords in the render context image. -/
  | saved3dPs
  /-- 3DSTATE_BINDING_TABLE_POINTERS_PS: 2 DWords in the render context image. -/
  | saved3dBindingTablePointersPs
  /-- 3DSTATE_SAMPLER_STATE_POINTERS_PS: 2 DWords in the render context image. -/
  | saved3dSamplerStatePointersPs
  /-- 3DSTATE_BLEND_STATE_POINTERS: 2 DWords in the render context image. -/
  | saved3dBlendStatePointers
  /-- 3DSTATE_DEPTH_BUFFER: 7 DWords in the render context image. -/
  | saved3dDepthBuffer
  /-- 3DSTATE_STENCIL_BUFFER: 3 DWords in the render context image. -/
  | saved3dStencilBuffer
  /-- 3DSTATE_HIER_DEPTH_BUFFER: 3 DWords in the render context image. -/
  | saved3dHierDepthBuffer
  /-- 3DSTATE_CLEAR_PARAMS: 3 DWords in the render context image. -/
  | saved3dClearParams
  /-- 3DSTATE_POLY_STIPPLE_PATTERN: 33 DWords in the render context image. -/
  | saved3dPolyStipplePattern
  /-- 3DSTATE_AA_LINE_PARAMS: 3 DWords in the render context image. -/
  | saved3dAaLineParams
  /-- 3DSTATE_POLY_STIPPLE_OFFSET: 2 DWords in the render context image. -/
  | saved3dPolyStippleOffset
  /-- 3DSTATE_LINE_STIPPLE: 3 DWords in the render context image. -/
  | saved3dLineStipple
  /-- 3DSTATE_MONOFILTER_SIZE: 2 DWords in the render context image. -/
  | saved3dMonofilterSize
  /-- MEDIA_VFE_STATE: 8 DWords in the render context image. -/
  | mediaVfeState
  /-- MEDIA_CURBE_LOAD: 4 DWords in the render context image. -/
  | mediaCurbeLoad
  /-- MEDIA_INTERFACE_DESCRIPTOR_LOAD: 4 DWords in the render context image. -/
  | mediaInterfaceDescriptorLoad
  /-- MEDIA_OBJECT_PRT/GPGPU_WALKER: 16 DWords in the render context image. -/
  | mediaObjectPrtGpgpuWalker
  /-- MEDIA_STATE_FLUSH: 2 DWords in the render context image. -/
  | mediaStateFlush
  /-- 3DSTATE_SO_BUFFER: 16 DWords in the render context image. -/
  | saved3dSoBuffer
  /-- 3DSTATE_SO_DECL_LIST: 259 DWords in the render context image. -/
  | saved3dSoDeclList
  /-- 3DSTATE_INDEX_BUFFER: 3 DWords in the render context image. -/
  | saved3dIndexBuffer
  /-- 3DSTATE_VERTEX_BUFFERS: 133 DWords in the render context image. -/
  | saved3dVertexBuffers
  /-- 3DSTATE_VERTEX_ELEMENTS: 69 DWords in the render context image. -/
  | saved3dVertexElements
  /-- 3DSTATE_VF_STATISTICS: 1 DWords in the render context image. -/
  | saved3dVfStatistics
deriving DecidableEq, Repr

/-- An opaque item that has been set, with its DWords. -/
structure OpaqueEntry where
  item : OpaqueItem
  dwords : List Word
deriving DecidableEq, Repr

/-- Registers the source names without an offset (10_state.md R61, R69; log entry 6). -/
inductive NamedReg where
  /-- PGTBL_CTL, shared (R61). -/
  | pgtblCtl
  /-- PGTBL_CTL2, shared (R61). -/
  | pgtblCtl2
  /-- GTTADR, shared (R61). -/
  | gttadr
  /-- HWS_PGA, shared (R61). -/
  | hwsPga
  /-- Context Control, video (R69). -/
  | vcsContextControl
  /-- Ring Head Pointer Register, video (R69). -/
  | vcsRingHead
  /-- Ring Tail Pointer Register, video (R69). -/
  | vcsRingTail
  /-- Batch Buffer Current Head Register, video (R69). -/
  | vcsBatchHead
  /-- Batch Buffer State Register, video (R69). -/
  | vcsBatchState
  /-- PPGTT Directory Cache Valid Register, video (R69). -/
  | vcsPpgttDirCacheValid
  /-- PD Base Virtual Address Register, video (R69). -/
  | vcsPdBase
  /-- MFX_STATE_POINTER 0, video (R69). -/
  | mfxStatePointer0
  /-- MFX_STATE_POINTER 1, video (R69). -/
  | mfxStatePointer1
  /-- MFX_STATE_POINTER 2, video (R69). -/
  | mfxStatePointer2
  /-- MFX_STATE_POINTER 3, video (R69). -/
  | mfxStatePointer3
  /-- VCS_CNTR (Media Watchdog Counter Control), video (R69). -/
  | vcsCntr
  /-- VCS_THRSH (Media Watchdog Counter Threshold), video (R69). -/
  | vcsThrsh
  /-- Current Context ID Register, video (R69). -/
  | vcsContextId
  /-- Ring Head Pointer Register, copy (R69). -/
  | bcsRingHead
  /-- Ring Tail Pointer Register, copy (R69). -/
  | bcsRingTail
  /-- PPGTT Directory Cache Valid Register, copy (R69). -/
  | bcsPpgttDirCacheValid
  /-- BCS_SWCTRL, copy (R69). -/
  | bcsSwctrl
  /-- PD Base Virtual Address Register, copy (R69). -/
  | bcsPdBase
  /-- A register of "GPM Data(Inc GAM)", which the source does not name: 214 DWords of the image, 107 registers (R69). -/
  | gpmData (k : Fin 107)
  /-- A register of MBCunit: 76 DWords, 38 registers (R69). -/
  | mbcUnit (k : Fin 38)
  /-- A register of GCPunit: 20 DWords, 10 registers (R69). -/
  | gcpUnit (k : Fin 10)
  /-- A register of GDTunit: 64 DWords, 32 registers (R69). -/
  | gdtUnit (k : Fin 32)
  /-- A register of GAMunit: 52 DWords, 26 registers (R69). -/
  | gamUnit (k : Fin 26)
deriving DecidableEq, Repr

/-- The number under which a named register is kept: its place in the declaration. -/
def NamedReg.index : NamedReg → Nat
  | .pgtblCtl => 0
  | .pgtblCtl2 => 1
  | .gttadr => 2
  | .hwsPga => 3
  | .vcsContextControl => 4
  | .vcsRingHead => 5
  | .vcsRingTail => 6
  | .vcsBatchHead => 7
  | .vcsBatchState => 8
  | .vcsPpgttDirCacheValid => 9
  | .vcsPdBase => 10
  | .mfxStatePointer0 => 11
  | .mfxStatePointer1 => 12
  | .mfxStatePointer2 => 13
  | .mfxStatePointer3 => 14
  | .vcsCntr => 15
  | .vcsThrsh => 16
  | .vcsContextId => 17
  | .bcsRingHead => 18
  | .bcsRingTail => 19
  | .bcsPpgttDirCacheValid => 20
  | .bcsSwctrl => 21
  | .bcsPdBase => 22
  | .gpmData k => 23 + k.val
  | .mbcUnit k => 130 + k.val
  | .gcpUnit k => 168 + k.val
  | .gdtUnit k => 178 + k.val
  | .gamUnit k => 210 + k.val

/-- An EU thread, as far as the source names its state (10_state.md R70 to R76; log entry 23). `maskStack` lists the mask
stack, oldest entry first: the first 16 entries are held on chip, those beyond in scratch space, which begins at
`scratchOffset` from the General State base (R76). -/
structure EuThread where
  euid : BitVec 4
  tid : Nat
  ip : Word
  aip : Word
  grf : List (Nat × BitVec 256)
  arf : List (Nat × Nat)
  mrf : List (Nat × Nat)
  cr : Nat
  dispatcherMask : Nat
  maskStack : List Nat
  scratchOffset : Nat
  urbHandles : List Nat
deriving DecidableEq, Repr

/-- A line of the LLC: "The GFDT bit is stored in the LLC" (10_state.md R79, 20_memory.md R133). -/
structure LlcLine where
  line : Nat
  gfdt : Bool
deriving DecidableEq, Repr

/-- An entry of the vertex cache: "Cache of Vertex URB Entry (VUE) handles tagged with vertex indices" (10_state.md R79). -/
structure VertexCacheEntry where
  vertexIndex : Nat
  vue : Nat
deriving DecidableEq, Repr

/-- Ring data the command DMA of the VCS has fetched: where it stood in the ring, in bytes from its start, and its bytes
(10_state.md R48, R80). -/
structure FifoLine where
  offset : Nat
  bytes : List Byte
deriving DecidableEq, Repr

/-- Caches and buffers (10_state.md R77 to R82): the numbers of their valid lines, the command FIFO of the VCS
with the DMA's copies of head and tail, and the scratch pages. R78 speaks of the sampler's "L1 cache line" once and names
no L1 cache beside the texture cache: the model holds the texture cache alone (DESIGN CHOICE, log entry 24). -/
structure Hidden where
  isc : List Nat
  texture : List Nat
  render : List Nat
  constant : List Nat
  vertex : List VertexCacheEntry
  l3 : List Nat
  llc : List LlcLine
  mlc : List Nat
  ppgttDirectory : List Nat
  vcsFifo : List FifoLine
  vcsDmaHead : Nat
  vcsDmaTail : Nat
  pipelinedStatePage : List (Nat × Byte)
  reissueRingPage : List (Nat × Byte)
deriving DecidableEq, Repr

/-- The caches that hold lines of memory without more (10_state.md R77 to R79). -/
inductive CacheName where
  | isc
  | texture
  | render
  | constant
  | l3
  | mlc
  | ppgttDirectory
deriving DecidableEq, Repr

/-- What happens to a cache (10_state.md R77 to R79; 20_memory.md R132, R133; log entry 24). -/
inductive CacheOp where
  /-- A line is loaded. -/
  | fill (c : CacheName) (line : Nat)
  /-- A line is loaded into the LLC with its GFDT bit. -/
  | fillLlc (l : LlcLine)
  /-- A VUE handle is entered under its vertex index. -/
  | fillVertex (v : VertexCacheEntry)
  /-- "selective cache flushing of lines with GFDT set is supported" (20_memory.md R133). -/
  | flushLlcGfdt
  /-- The whole of a cache: "MLC would need to be completely flushed" (R133), "Software must explicitly invalidate the
  texture cache" (R132). -/
  | empty (c : CacheName)
deriving DecidableEq, Repr

/-- What a URB entry holds: a vertex (VUE) or constants (CURBE) (10_state.md R81). -/
inductive UrbKind where
  | vertex
  | constants
deriving DecidableEq, Repr

/-- An entry of the URB, "referenced via a URB Handle" (10_state.md R81, 20_memory.md R93). -/
structure UrbEntry where
  kind : UrbKind
  dwords : List Word
deriving DecidableEq, Repr

/-- The two interrupts the source names (60_exceptions.md R780, R784). -/
inductive InterruptKind where
  | user
  | contextSwitch
deriving DecidableEq, Repr

/-- `HostInterrupt(engine, kind)` (60_exceptions.md R784). -/
structure HostInterrupt where
  engine : Engine
  kind : InterruptKind
deriving DecidableEq, Repr

/-- The translation tables: the global GTT and each parser's per-process table (20_memory.md R96). -/
inductive TableId where
  | global
  | perProcess (e : Engine)
deriving DecidableEq, Repr

/-- An address space the host reaches (20_memory.md R90, R91, R98). -/
inductive Space where
  | phys
  | gfx (t : TableId)
deriving DecidableEq, Repr

/-- What another agent does (70_reset_and_hazards.md R835, R836; log entry 16). -/
inductive Event where
  /-- The parser of `e` parses and executes one command (R836). -/
  | runParser (e : Engine)
  /-- `HostWriteMem(space, a, n, v)`, its bytes lowest address first. -/
  | hostWriteMem (space : Space) (a : Nat) (bytes : List Byte)
  /-- `HostProgramRing(engine, start, length, head, tail)`. -/
  | hostProgramRing (e : Engine) (start : GraphicsAddress) (length head tail : Nat)
  /-- `HostWriteTail(engine, tail)`. -/
  | hostWriteTail (e : Engine) (tail : Nat)
  /-- `HostWriteReg(off, v)`. -/
  | hostWriteReg (off : Nat) (v : Word)
  /-- `HostWriteReg` on a register whose offset is not in the source. -/
  | hostWriteNamedReg (r : NamedReg) (v : Word)
  /-- `HostReadMem`. -/
  | hostReadMem (space : Space) (a n : Nat)
  /-- `HostReadReg`. -/
  | hostReadReg (off : Nat)
  /-- `HostMapPage(table, a, p)`: the page of `a`, in the global table or in an engine's per-process table. -/
  | hostMapPage (t : TableId) (a : GraphicsAddress) (entry : PageEntry)
  /-- The per-process status page of an engine is placed, by means not in the source (log entry 10). -/
  | setStatusPage (e : Engine) (page : BitVec 20)
  /-- The table an engine's accesses use is chosen, by means not in the source (log entry 9). -/
  | setTable (e : Engine) (t : TableSelect)
  /-- A stateless DataPort write by an EU thread: an offset from the General State base (20_memory.md R110, R113;
  log entry 29). -/
  | dataPortWrite (offset : Word) (bytes : List Byte)
  /-- A fixed function or the thread spawner spawns a thread (10_state.md R88; log entry 23). -/
  | spawnThread (t : EuThread)
  /-- The thread in the given slot takes an exception (60_exceptions.md R762; log entry 22). -/
  | euException (index : Nat)
  /-- The size of a translation table is set: PGTBL_CTL, and PGTBL_CTL2 for the PPGTT (20_memory.md R96; log entry 8). -/
  | hostSetTableSize (t : TableId) (size : TableSize)
  /-- The device writes a reserved DWord of an engine's status page (49_logical_context.md R753; log entry 49). -/
  | deviceWriteReserved (e : Engine) (k : Nat)
  /-- The thread in the given slot writes its scratch space (10_state.md R76; log entry 23). -/
  | scratchWrite (index offset : Nat) (bytes : List Byte)
  /-- The thread in the given slot pushes an entry on its mask stack (10_state.md R76; log entry 23). -/
  | pushMask (index mask : Nat)
  /-- The thread in the given slot takes the newest entry off its mask stack (10_state.md R76; log entry 23). -/
  | popMask (index : Nat)
  /-- The thread in the given slot ends, by a message with EOT (00_scope.md R19; log entry 23). -/
  | endThread (index : Nat)
  /-- A thread or a fixed function returns data to an entry of the URB (10_state.md R81; log entry 50). -/
  | urbWrite (handle : Nat) (entry : UrbEntry)
  /-- A cache is filled or flushed (10_state.md R77 to R79; log entry 24). -/
  | cache (op : CacheOp)
  /-- The command DMA of the VCS makes one request (10_state.md R48; log entry 24). -/
  | vcsDmaRequest
  /-- The sampling engine or the data port accesses a surface (48_surface_layout.md R700, R706; log entry 47). -/
  | surfaceAccess (a : Surface.Access)
deriving DecidableEq, Repr

/-- Which of two commands the machine accepts that the rules refuse and leave a model free to accept: MI_USER_INTERRUPT
(41_mi_commands.md R231, 60_exceptions.md R781) and MI_REPORT_HEAD (R235, 49_logical_context.md R750); log entries 11, 12. -/
structure Accepted where
  userInterrupt : Bool
  reportHead : Bool
deriving DecidableEq, Repr

/-- The state of the machine. `variant` and `accepted` are parameters, fixed for the machine (00_scope.md R7; log entries 11,
12); `freeCounter`, `turn` and `schedule` are the model's own (log entries 13, 16). -/
structure State where
  variant : Config.Variant
  accepted : Accepted
  render : Parser
  video : Parser
  blitter : Parser
  gpe : Gpe
  opaqueState : List OpaqueEntry
  mmio : List (Nat × Word)
  namedRegs : List (Nat × Word)
  gtt : PageTable
  phys : List Host.Cell
  threads : List EuThread
  urb : List (Nat × UrbEntry)
  hidden : Hidden
  interrupts : List HostInterrupt
  freeCounter : Nat
  turn : Engine
  schedule : List Event
deriving DecidableEq, Repr

/-- Faults: the machine itself stops. -/
inductive Fault where
  /-- `GTTError(a)`: an access touched a page of Graphics Address `a` with no valid mapping. Raised by every
  access to graphics memory (60_exceptions.md R765). Safe: the source describes no continuation. -/
  | gttError (a : GraphicsAddress)
deriving DecidableEq, Repr

/-- Refusals: the model gives no next state. The first fifteen are the reasons of 60_exceptions.md R770. -/
inductive Refusal where
  /-- An instruction that has no meaning in the model yet. Safe. -/
  | notModelled (mnemonic : String)
  /-- The maps name the command and the source does not define its body; `length` is `L`. Raised by the commands
  of 30_encoding.md R160. Safe. -/
  | bodyNotInSource (mnemonic : String) (length : Nat)
  /-- No command of the fetching parser has this opcode (30_encoding.md R157, R161). Safe. -/
  | reservedOpcode
  /-- The client is not one of the fetching parser's (30_encoding.md R147 to R149). Safe. -/
  | reservedClient
  /-- `DW0[31:29] = 7` on the render parser (60_exceptions.md R795). Safe. -/
  | fulsimEncoding
  /-- PIPELINE_SELECT value 3 (40_common_commands.md R190). Safe. -/
  | reservedValue
  /-- A pipeline-specific command while another pipeline is selected (43_3d_commands.md R321). Safe. -/
  | wrongPipeline
  /-- A bit marked MBZ or Reserved in a defined command is 1 (30_encoding.md R158). Safe. -/
  | nonZeroMbz
  /-- The DWord Length is not the one legal value (30_encoding.md R156). Safe. -/
  | badLength
  /-- STATE_BASE_ADDRESS would leave a bound not above its base (40_common_commands.md R201). Safe. -/
  | boundNotAboveBase
  /-- Base plus offset does not fit in 32 bits (20_memory.md R111). Safe. -/
  | addressOverflow
  /-- An address that a rule requires aligned is not (20_memory.md R102). Raised by host events and by accesses
  to RAW surfaces. Safe. -/
  | misaligned
  /-- An access at or beyond the Dynamic State bound (20_memory.md R114). Safe. -/
  | dynamicStateOutOfBounds
  /-- A command extends past the tail or the end of the ring (10_state.md R46, R47). Safe. -/
  | commandPastTail
  /-- A write into a live part of a ring (20_memory.md R131). Safe. -/
  | commandStreamModified
  /-- A rule reads a variable that is `unset` (10_state.md R84). Safe. -/
  | stateNeverWritten
  /-- A host write to a ring register, whose bits are not in the source (log entry 21). Raised by host events.
  Safe. -/
  | registerLayoutNotInSource
  /-- A ring length above 2 MB (10_state.md R41; log entry 20). Raised by host events. Safe. -/
  | ringParametersIllegal
  /-- A global translation table of 64 KB: "128KB, 256KB or 512KB" (20_memory.md R96; log entry 8). Raised by host
  events. Safe. -/
  | tableSizeIllegal
  /-- An access to a surface whose layout is not in the source, or to a RAW surface in a way RAW does not support
  (48_surface_layout.md R662, R666, R671, R672, R676, R678, R682, R685; 45_channel_formats.md R543; log entry 47). Raised by surface accesses. Safe. -/
  | surfaceLayoutNotInSource
deriving DecidableEq, Repr

/-- A parser after reset, with a per-process table of the given size, `PPGTT_SIZE` (00_scope.md R7): its ring invalid, its
batch buffer inactive (10_state.md R85). The other fields are DESIGN CHOICE (log entries 4, 8, 9, 10). -/
def Parser.resetWith (ppgttSize : TableSize) : Parser where
  ring := ⟨0, 0, 0, 0, false⟩
  bb := ⟨false, 0⟩
  table := .global
  ppgtt := ⟨ppgttSize, []⟩
  statusPage := 0

/-- Every state variable `unset` (10_state.md R84). -/
def Gpe.reset : Gpe where
  pipelineSelect := .unset
  generalStateBase := .unset
  surfaceStateBase := .unset
  dynamicStateBase := .unset
  indirectObjectBase := .unset
  instructionBase := .unset
  generalStateMocs := .unset
  statelessDataPortMocs := .unset
  surfaceStateMocs := .unset
  dynamicStateMocs := .unset
  indirectObjectMocs := .unset
  instructionMocs := .unset
  forceWriteThru := .unset
  generalStateBound := .unset
  dynamicStateBound := .unset
  indirectObjectBound := .unset
  instructionBound := .unset
  swTessBase := .unset
  swTessMocs := .unset
  sip := .unset

/-- Every cache and buffer empty (10_state.md R87). -/
def Hidden.reset : Hidden where
  isc := []
  texture := []
  render := []
  constant := []
  vertex := []
  l3 := []
  llc := []
  mlc := []
  ppgttDirectory := []
  vcsFifo := []
  vcsDmaHead := 0
  vcsDmaTail := 0
  pipelinedStatePage := []
  reissueRingPage := []

/-- The machine after `Reset` (70_reset_and_hazards.md R800, R801), its parameters as arguments: the variant, `GTT_SIZE` and
`PPGTT_SIZE` (00_scope.md R7), and the commands accepted beyond those of R160 (log entries 11, 12). Rings invalid, state variables unset, no thread, no interrupt, nothing cached. Registers
and memory list nothing: an unlisted register or byte reads zero (DESIGN CHOICE, log entries 5, 6, 7). -/
def State.resetWith (variant : Config.Variant) (gttSize ppgttSize : TableSize) (accepted : Accepted) : State where
  variant := variant
  accepted := accepted
  render := Parser.resetWith ppgttSize
  video := Parser.resetWith ppgttSize
  blitter := Parser.resetWith ppgttSize
  gpe := Gpe.reset
  opaqueState := []
  mmio := []
  namedRegs := []
  gtt := ⟨gttSize, []⟩
  phys := []
  threads := []
  urb := []
  hidden := Hidden.reset
  interrupts := []
  freeCounter := 0
  turn := .render
  schedule := []

/-- The machine after `Reset`, with the parameters at the values of log entry 8: the larger variant, tables of 512 KB
(DESIGN CHOICE; `hostSetTableSize` sets another size). It refuses what 30_encoding.md R160 refuses. -/
def State.reset : State := State.resetWith .large .kb512 .kb512 ⟨false, false⟩

/-- The parser of an engine. -/
def State.parser (s : State) : Engine → Parser
  | .render => s.render
  | .video => s.video
  | .blitter => s.blitter

/-- Replace the parser of an engine. -/
def State.setParser (s : State) (e : Engine) (p : Parser) : State :=
  match e with
  | .render => { s with render := p }
  | .video => { s with video := p }
  | .blitter => { s with blitter := p }

/-- Replace the GPE state variables. -/
def State.setGpe (s : State) (g : Gpe) : State := { s with gpe := g }

/-- Replace the opaque state. -/
def State.setOpaque (s : State) (o : List OpaqueEntry) : State := { s with opaqueState := o }

/-- Replace physical memory. -/
def State.setPhys (s : State) (m : List Host.Cell) : State := { s with phys := m }

/-- Replace the register file. -/
def State.setMmio (s : State) (m : List (Nat × Word)) : State := { s with mmio := m }

/-- Replace the registers kept by name. -/
def State.setNamedRegs (s : State) (m : List (Nat × Word)) : State := { s with namedRegs := m }

/-- Replace the global translation table. -/
def State.setGtt (s : State) (t : PageTable) : State := { s with gtt := t }

/-- Replace the EU threads. -/
def State.setThreads (s : State) (t : List EuThread) : State := { s with threads := t }

/-- Replace the URB. -/
def State.setUrb (s : State) (u : List (Nat × UrbEntry)) : State := { s with urb := u }

/-- Replace the caches and buffers. -/
def State.setHidden (s : State) (h : Hidden) : State := { s with hidden := h }

/-- Append to the trace of interrupts (60_exceptions.md R784). -/
def State.pushInterrupt (s : State) (i : HostInterrupt) : State := { s with interrupts := s.interrupts ++ [i] }

/-- Move on to the next free value (log entry 13). -/
def State.bumpFree (s : State) : State := { s with freeCounter := s.freeCounter + 1 }

/-- The parser that steps is that of `e`. -/
def State.setTurn (s : State) (e : Engine) : State := { s with turn := e }

/-- Replace the scheduled events. -/
def State.setSchedule (s : State) (l : List Event) : State := { s with schedule := l }

end Sys2Proof.Machine
end

