-- ==== Sys2Proof/Machine/Registers.lean ====
section
/-! DEFINITION. The memory-mapped registers the source names (10_state.md R60 to R69): storage by byte offset, a
64-bit register as two DWords at consecutive offsets (log entry 34). -/

namespace Sys2Proof.Machine

/-- A named register: how many DWords it takes and the unit that owns it (10_state.md R60). -/
structure RegisterRow where
  name : String
  offset : Nat
  dwords : Nat
  unit : String
deriving DecidableEq, Repr

/-- First block of the command streamer (10_state.md R62). -/
def registersR62 : List RegisterRow :=
  [⟨"RING_BUFFER_START", 0x2038, 1, "CS"⟩,
   ⟨"EMR", 0x20B4, 1, "CS"⟩,
   ⟨"RING_BUFFER_CONTROL", 0x203C, 1, "CS"⟩,
   ⟨"CMD_CCTL_0", 0x20C4, 1, "CS"⟩,
   ⟨"RVSYNC", 0x2040, 1, "CS"⟩,
   ⟨"GAFS_Mode", 0x212C, 1, "CS"⟩,
   ⟨"RBSYNC", 0x2044, 1, "CS"⟩,
   ⟨"UHPTR", 0x2134, 1, "CS"⟩,
   ⟨"RC_PWRCTX_MAXCNT", 0x2054, 1, "CS"⟩,
   ⟨"BB_PREEMPT_ADDR", 0x2148, 1, "CS"⟩,
   ⟨"CTX_WA_PTR", 0x2058, 1, "CS"⟩,
   ⟨"RING_BUFFER_HEAD_PREEMPT_REG", 0x214C, 1, "CS"⟩,
   ⟨"NOPID", 0x2094, 1, "CS"⟩,
   ⟨"CXT_SIZE", 0x21A8, 1, "CS"⟩,
   ⟨"HWSTAM", 0x2098, 1, "CS"⟩,
   ⟨"CXT_OFFSET", 0x21AC, 1, "CS"⟩,
   ⟨"FF_THREAD_MODE", 0x20A0, 1, "CS"⟩,
   ⟨"CXT_PIPESTATEBASE", 0x21B0, 1, "CS"⟩,
   ⟨"IMR", 0x20A8, 1, "CS"⟩,
   ⟨"PREEMPT_DLY", 0x2214, 1, "CS"⟩,
   ⟨"EIR", 0x20B0, 1, "CS"⟩,
   ⟨"GFX_MODE", 0x229C, 1, "CS"⟩,
   ⟨"MTCH_CID_RST", 0x222C, 1, "CS"⟩,
   ⟨"SYNC_FLIP_STATUS", 0x22D0, 1, "CS"⟩,
   ⟨"SYNC_FLIP_STATUS_1", 0x22D4, 1, "CS"⟩]

/-- Second and third blocks of the command streamer (10_state.md R63). -/
def registersR63 : List RegisterRow :=
  [⟨"Context Control", 0x2244, 1, "CS"⟩,
   ⟨"Ring Head Pointer Register", 0x2034, 1, "CS"⟩,
   ⟨"Ring Tail Pointer Register", 0x2030, 1, "CS"⟩,
   ⟨"Batch Buffer Current Head Register", 0x2140, 1, "CS"⟩,
   ⟨"Batch Buffer State Register", 0x2110, 1, "CS"⟩,
   ⟨"PPGTT Directory Cache Valid Register", 0x2220, 1, "CS"⟩,
   ⟨"PP_DIR_BASE", 0x2228, 1, "CS"⟩,
   ⟨"Read Offset in Pipelined State Page (8 CL aligned)", 0x224C, 1, "CS"⟩,
   ⟨"Committed Vertex Number", 0x21C4, 1, "CS"⟩,
   ⟨"Committed Instance ID", 0x21C8, 1, "CS"⟩,
   ⟨"Committed Primitive ID", 0x21CC, 1, "CS"⟩,
   ⟨"CCID Register", 0x2180, 1, "CS"⟩,
   ⟨"EXCC", 0x2028, 1, "CS"⟩,
   ⟨"MI_MODE", 0x209C, 1, "CS"⟩,
   ⟨"INSTPM", 0x20C0, 1, "CS"⟩,
   ⟨"PR_CTR_CTL", 0x2178, 1, "CS"⟩,
   ⟨"PR_CTR_THRSH", 0x217C, 1, "CS"⟩,
   ⟨"IA_VERTICES_COUNT", 0x2310, 2, "CS"⟩,
   ⟨"IA_PRIMITIVES_COUNT", 0x2318, 2, "CS"⟩,
   ⟨"VS_INVOCATION_COUNT", 0x2320, 2, "CS"⟩,
   ⟨"HS_INVOCATION_COUNT", 0x2300, 2, "CS"⟩,
   ⟨"DS_INVOCATION_COUNT", 0x2308, 2, "CS"⟩,
   ⟨"GS_INVOCATION_COUNT", 0x2328, 2, "CS"⟩,
   ⟨"GS_PRIMITIVES_COUNT", 0x2330, 2, "CS"⟩,
   ⟨"CL_INVOCATION_COUNT", 0x2338, 2, "CS"⟩,
   ⟨"CL_PRIMITIVES_COUNT", 0x2340, 2, "CS"⟩,
   ⟨"PS_INVOCATION_COUNT", 0x2348, 2, "CS"⟩,
   ⟨"PS_DEPTH_COUNT", 0x2350, 2, "CS"⟩,
   ⟨"VFSKPD", 0x2470, 1, "CS"⟩,
   ⟨"TIMESTAMP Register (LSB)", 0x2358, 1, "CS"⟩,
   ⟨"GPUGPU_DISPATCHDIMX", 0x2500, 1, "CS"⟩,
   ⟨"GPUGPU_DISPATCHDIMY", 0x2504, 1, "CS"⟩,
   ⟨"GPUGPU_DISPATCHDIMZ", 0x2508, 1, "CS"⟩,
   ⟨"MI_PREDICATE_SRC0", 0x2400, 2, "CS"⟩,
   ⟨"MI_PREDICATE_SRC1", 0x2408, 2, "CS"⟩,
   ⟨"MI_PREDICATE_DATA", 0x2410, 2, "CS"⟩,
   ⟨"MI_PRED_RESULT", 0x2418, 1, "CS"⟩,
   ⟨"3DPRIM_END_OFFSET", 0x2420, 1, "CS"⟩,
   ⟨"3DPRIM_START_VERTEX", 0x2430, 1, "CS"⟩,
   ⟨"3DPRIM_VERTEX_COUNT", 0x2434, 1, "CS"⟩,
   ⟨"3DPRIM_INSTANCE_COUNT", 0x2438, 1, "CS"⟩,
   ⟨"3DPRIM_START_INSTANCE", 0x243C, 1, "CS"⟩,
   ⟨"3DPRIM_BASE_VERTEX", 0x2440, 1, "CS"⟩,
   ⟨"GPGPU_THREADS_DISPATCHED", 0x2290, 1, "CS"⟩]

/-- Unit SARB (10_state.md R64). -/
def registersR64 : List RegisterRow :=
  [⟨"SARB Error Status", 0xB004, 1, "SARB"⟩,
   ⟨"L3CD Error Status register 1", 0xB008, 1, "SARB"⟩,
   ⟨"L3CD Error Status register 2", 0xB00C, 1, "SARB"⟩,
   ⟨"L3 SQC registers 1", 0xB010, 1, "SARB"⟩,
   ⟨"L3 SQC registers 2", 0xB014, 1, "SARB"⟩,
   ⟨"L3 SQC registers 3", 0xB018, 1, "SARB"⟩,
   ⟨"L3 Control Register1", 0xB01C, 1, "SARB"⟩,
   ⟨"L3 Control Register2", 0xB020, 1, "SARB"⟩,
   ⟨"L3 Control Register3", 0xB024, 1, "SARB"⟩,
   ⟨"L3 SLM Register", 0xB028, 1, "SARB"⟩,
   ⟨"Arbiter Control Register", 0xB02C, 1, "SARB"⟩,
   ⟨"L3 SQC register 4", 0xB034, 1, "SARB"⟩,
   ⟨"L3 bank0 reg0 log error", 0xB070, 1, "SARB"⟩,
   ⟨"L3 bank0 reg1 log error", 0xB074, 1, "SARB"⟩,
   ⟨"L3 bank0 reg2 log error", 0xB078, 1, "SARB"⟩,
   ⟨"L3 bank0 reg3 log error", 0xB07C, 1, "SARB"⟩,
   ⟨"L3 bank0 reg4 log error", 0xB080, 1, "SARB"⟩,
   ⟨"L3 bank0 reg5 log error", 0xB084, 1, "SARB"⟩,
   ⟨"L3 bank0 reg6 log error", 0xB088, 1, "SARB"⟩,
   ⟨"L3 bank0 reg7 log error", 0xB08C, 1, "SARB"⟩,
   ⟨"L3 bank1 reg0 log error", 0xB090, 1, "SARB"⟩,
   ⟨"L3 bank1 reg1 log error", 0xB094, 1, "SARB"⟩,
   ⟨"L3 bank1 reg2 log error", 0xB098, 1, "SARB"⟩,
   ⟨"L3 bank1 reg3 log error", 0xB09C, 1, "SARB"⟩,
   ⟨"L3 bank1 reg4 log error", 0xB0A0, 1, "SARB"⟩,
   ⟨"L3 bank1 reg5 log error", 0xB0A4, 1, "SARB"⟩,
   ⟨"L3 bank1 reg6 log error", 0xB0A8, 1, "SARB"⟩,
   ⟨"L3 bank1 reg7 log error", 0xB0AC, 1, "SARB"⟩,
   ⟨"L3 bank2 reg0 log error", 0xB0B0, 1, "SARB"⟩,
   ⟨"L3 bank2 reg1 log error", 0xB0B4, 1, "SARB"⟩,
   ⟨"L3 bank2 reg2 log error", 0xB0B8, 1, "SARB"⟩,
   ⟨"L3 bank2 reg3 log error", 0xB0BC, 1, "SARB"⟩,
   ⟨"L3 bank2 reg4 log error", 0xB0C0, 1, "SARB"⟩,
   ⟨"L3 bank2 reg5 log error", 0xB0C4, 1, "SARB"⟩,
   ⟨"L3 bank2 reg6 log error", 0xB0C8, 1, "SARB"⟩,
   ⟨"L3 bank2 reg7 log error", 0xB0CC, 1, "SARB"⟩,
   ⟨"L3 bank3 reg0 log error", 0xB0D0, 1, "SARB"⟩,
   ⟨"L3 bank3 reg1 log error", 0xB0D4, 1, "SARB"⟩,
   ⟨"L3 bank3 reg2 log error", 0xB0D8, 1, "SARB"⟩,
   ⟨"L3 bank3 reg3 log error", 0xB0DC, 1, "SARB"⟩,
   ⟨"L3 bank3 reg4 log error", 0xB0E0, 1, "SARB"⟩,
   ⟨"L3 bank3 reg5 log error", 0xB0E4, 1, "SARB"⟩,
   ⟨"L3 bank3 reg6 log error", 0xB0E8, 1, "SARB"⟩,
   ⟨"L3 bank3 reg7 log error", 0xB0EC, 1, "SARB"⟩]

/-- Unit SVL (10_state.md R65). -/
def registersR65 : List RegisterRow :=
  [⟨"Cache_Mode_0", 0x7000, 1, "SVL"⟩,
   ⟨"Cache_Mode_1", 0x7004, 1, "SVL"⟩,
   ⟨"GT_MODE", 0x7008, 1, "SVL"⟩,
   ⟨"FBC_RT_BASE_ADDR_REGISTER", 0x7020, 1, "SVL"⟩]

/-- Units TDL0 and TDL1 (10_state.md R66). -/
def registersR66 : List RegisterRow :=
  [⟨"TD_CTL2", 0xE404, 1, "TDL0"⟩,
   ⟨"TD_VF_VS_EMSK", 0xE408, 1, "TDL0"⟩,
   ⟨"TD_GS_EMSK", 0xE40C, 1, "TDL0"⟩,
   ⟨"TD_WIZ_EMSK", 0xE410, 1, "TDL0"⟩,
   ⟨"TD_TS_EMSK", 0xE428, 1, "TDL0"⟩,
   ⟨"TD_HS_EMSK", 0xE4B0, 1, "TDL0"⟩,
   ⟨"TD_DS_EMSK", 0xE4B4, 1, "TDL0"⟩,
   ⟨"TD_CTL2", 0xF404, 1, "TDL1"⟩,
   ⟨"TD_VF_VS_EMSK", 0xF408, 1, "TDL1"⟩,
   ⟨"TD_GS_EMSK", 0xF40C, 1, "TDL1"⟩,
   ⟨"TD_WIZ_EMSK", 0xF410, 1, "TDL1"⟩,
   ⟨"TD_TS_EMSK", 0xF428, 1, "TDL1"⟩,
   ⟨"TD_HS_EMSK", 0xF4B0, 1, "TDL1"⟩,
   ⟨"TD_DS_EMSK", 0xF4B4, 1, "TDL1"⟩]

/-- Unit WM (10_state.md R67). -/
def registersR67 : List RegisterRow :=
  [⟨"SuperSpan Count", 0x5520, 1, "WM"⟩]

/-- Unit SOL (10_state.md R68). -/
def registersR68 : List RegisterRow :=
  [⟨"SO_NUM_PRIMS_WRITTEN0", 0x5200, 2, "SOL"⟩,
   ⟨"SO_NUM_PRIMS_WRITTEN1", 0x5208, 2, "SOL"⟩,
   ⟨"SO_NUM_PRIMS_WRITTEN2", 0x5210, 2, "SOL"⟩,
   ⟨"SO_NUM_PRIMS_WRITTEN3", 0x5218, 2, "SOL"⟩,
   ⟨"SO_PRIM_STORAGE_NEEDED0", 0x5240, 2, "SOL"⟩,
   ⟨"SO_PRIM_STORAGE_NEEDED1", 0x5248, 2, "SOL"⟩,
   ⟨"SO_PRIM_STORAGE_NEEDED2", 0x5250, 2, "SOL"⟩,
   ⟨"SO_PRIM_STORAGE_NEEDED3", 0x5258, 2, "SOL"⟩,
   ⟨"SO_WRITE_OFFSET0", 0x5280, 1, "SOL"⟩,
   ⟨"SO_WRITE_OFFSET1", 0x5284, 1, "SOL"⟩,
   ⟨"SO_WRITE_OFFSET2", 0x5288, 1, "SOL"⟩,
   ⟨"SO_WRITE_OFFSET3", 0x528C, 1, "SOL"⟩]

/-- Every register the source names with an offset (10_state.md R62 to R68). -/
def registerTable : List RegisterRow :=
  registersR62 ++ registersR63 ++ registersR64 ++ registersR65 ++ registersR66 ++ registersR67 ++ registersR68

/-- The DWord offsets a register occupies. -/
def RegisterRow.offsets (r : RegisterRow) : List Nat := (List.range r.dwords).map fun k => r.offset + 4 * k

/-- The ring registers of the render engine: start, control, head, tail (10_state.md R41). Their bits are not in the
source, and the state they hold is `Ring` (log entry 21). -/
def ringRegisterOffsets : List Nat := [0x2030, 0x2034, 0x2038, 0x203C]

/-- The named registers that hold ring pointers (10_state.md R69). -/
def NamedReg.isRingPointer : NamedReg → Bool
  | .vcsRingHead | .vcsRingTail | .bcsRingHead | .bcsRingTail => true
  | .pgtblCtl | .pgtblCtl2 | .gttadr | .hwsPga | .vcsContextControl | .vcsBatchHead | .vcsBatchState
  | .vcsPpgttDirCacheValid | .vcsPdBase | .mfxStatePointer0 | .mfxStatePointer1 | .mfxStatePointer2
  | .mfxStatePointer3 | .vcsCntr | .vcsThrsh | .vcsContextId | .bcsPpgttDirCacheValid | .bcsSwctrl
  | .bcsPdBase | .gpmData _ | .mbcUnit _ | .gcpUnit _ | .gdtUnit _ | .gamUnit _ => false

/-- `MMIO[off]` (00_scope.md R11). A register nothing has written reads zero (DESIGN CHOICE, log entry 5). -/
def State.readReg (s : State) (off : Nat) : Word := Assoc.read 0 off s.mmio

/-- `MMIO[off] <- v`: storage, no side effect is defined (70_reset_and_hazards.md R835). -/
def State.writeReg (s : State) (off : Nat) (v : Word) : State := s.setMmio (Assoc.write 0 off v s.mmio)

/-- A 64-bit register: the low DWord at its offset, the high DWord four bytes on (DEDUCED, log entry 34). -/
def State.readReg64 (s : State) (off : Nat) : BitVec 64 :=
  (s.readReg (off + 4) ++ s.readReg off : BitVec (32 + 32))

/-- A register named without an offset (log entry 6). -/
def State.readNamed (s : State) (r : NamedReg) : Word := Assoc.read 0 r.index s.namedRegs

/-- Write a register named without an offset. -/
def State.writeNamed (s : State) (r : NamedReg) (v : Word) : State :=
  s.setNamedRegs (Assoc.write 0 r.index v s.namedRegs)

end Sys2Proof.Machine
end

