-- ==== Sys2Proof/Machine/Ops.lean ====
section
/-! DEFINITION. The named operations over memory, translation, rings, threads: what every meaning and every host event
is made of (10_state.md, 20_memory.md, 60_exceptions.md). -/

namespace Sys2Proof.Machine

/-- What a step answers. -/
abbrev Result := Host.Outcome State Fault Refusal

/-- PTEs of a table: its size over 4 bytes (20_memory.md R97). -/
def TableSize.entries : TableSize → Nat
  | .kb64 => 16384
  | .kb128 => 32768
  | .kb256 => 65536
  | .kb512 => 131072

/-- Bytes a table maps: one 4 KB page for each PTE (20_memory.md R97). -/
def TableSize.aperture (t : TableSize) : Nat := t.entries * Config.pageSize

/-- The number of the PTE of a Graphics Address (20_memory.md R97). -/
def pteIndex (a : GraphicsAddress) : Nat := a.toNat / Config.pageSize

/-- The byte offset of that PTE in its table (20_memory.md R97). -/
def pteOffset (a : GraphicsAddress) : Nat := 4 * pteIndex a

/-- The entry for the page of an address: none beyond the aperture, none where no page is mapped
(20_memory.md R97, R98). -/
def PageTable.entry? (t : PageTable) (a : GraphicsAddress) : Option PageEntry :=
  if pteIndex a < t.size.entries then Assoc.find? (pteIndex a) t.entries else none

/-- `Translate(table, a)` (20_memory.md R98): the physical byte address. -/
def PageTable.translate (t : PageTable) (a : GraphicsAddress) : Option Nat :=
  (t.entry? a).map fun e => e.page * Config.pageSize + a.toNat % Config.pageSize

/-- Map the page of an address (70_reset_and_hazards.md R835). How a changed PTE becomes visible is not in the source
(20_memory.md R135): an entry of a page already mapped is replaced, visible at once; a page beyond the table has no PTE to
write and changes nothing (DESIGN CHOICE, log entry 9). -/
def PageTable.mapPage (t : PageTable) (a : GraphicsAddress) (e : PageEntry) : PageTable :=
  if pteIndex a < t.size.entries then { t with entries := Assoc.insert (pteIndex a) e t.entries } else t

/-- A translation table by name. -/
def State.tableById (s : State) : TableId → PageTable
  | .global => s.gtt
  | .perProcess e => (s.parser e).ppgtt

/-- Replace a translation table. -/
def State.setTableById (s : State) (i : TableId) (t : PageTable) : State :=
  match i with
  | .global => s.setGtt t
  | .perProcess e => s.setParser e { s.parser e with ppgtt := t }

/-- Which table the accesses of an engine go through (log entry 9). -/
def State.tableIdOf (s : State) (e : Engine) : TableId :=
  match (s.parser e).table with
  | .global => .global
  | .perProcess => .perProcess e

/-- The table the accesses of an engine go through (20_memory.md R98; log entry 9). -/
def State.tableOf (s : State) (e : Engine) : PageTable := s.tableById (s.tableIdOf e)

/-- A byte of physical memory. What nothing has written reads zero (DESIGN CHOICE, unsafe, log entry 7). -/
def readPhys (m : List Host.Cell) (a : Nat) : Byte := Assoc.read 0 a m

/-- Write bytes to the physical addresses given, one each. -/
def writePhys (m : List Host.Cell) : List Nat → List Byte → List Host.Cell
  | a :: as, b :: bs => writePhys (Assoc.write 0 a b m) as bs
  | _, _ => m

/-- The canonical form of physical memory: addresses strictly rising, no zero byte listed. -/
def memoryWf (m : List Host.Cell) : Bool := Assoc.canonical 0 m

/-- The physical addresses of `n` bytes from a Graphics Address, or the first address whose page is not mapped
(20_memory.md R98). -/
def PageTable.plan (t : PageTable) (a : GraphicsAddress) : Nat → Except GraphicsAddress (List Nat)
  | 0 => .ok []
  | n + 1 =>
      match t.translate a with
      | none => .error a
      | some p =>
          match t.plan (a + 1) n with
          | .error b => .error b
          | .ok ps => .ok (p :: ps)

/-- The byte a Graphics Address holds, where its page is mapped. -/
def State.readGfx (s : State) (i : TableId) (a : GraphicsAddress) : Option Byte :=
  ((s.tableById i).translate a).map (readPhys s.phys)

/-- `MemRead(GFX, a, 4)` by an engine: a DWord, little-endian, or the address that faults
(00_scope.md R11, 20_memory.md R98, R100). -/
def State.readWord (s : State) (e : Engine) (a : GraphicsAddress) : Except GraphicsAddress Word :=
  match (s.tableOf e).plan a 4 with
  | .ok [p0, p1, p2, p3] =>
      .ok (wordOfBytes (readPhys s.phys p0) (readPhys s.phys p1) (readPhys s.phys p2) (readPhys s.phys p3))
  | .ok _ => .error a
  | .error b => .error b

/-- `n` consecutive DWords from a Graphics Address (00_scope.md R11: `DWk` is read at `pc + 4 * k`). -/
def State.readWords (s : State) (e : Engine) (a : GraphicsAddress) : Nat → Except GraphicsAddress (List Word)
  | 0 => .ok []
  | n + 1 =>
      match s.readWord e a with
      | .error b => .error b
      | .ok w =>
          match s.readWords e (a + 4) n with
          | .error b => .error b
          | .ok ws => .ok (w :: ws)

/-- The Graphics Address of the next command (10_state.md R45). R45 and 20_memory.md R90 give the width, 32 bits, and not
what a ring is whose start plus head passes 2^32: the sum is taken modulo 2^32 (DESIGN CHOICE, log entry 44). -/
def Parser.pc (p : Parser) : GraphicsAddress :=
  if p.bb.active then p.bb.head else p.ring.start + BitVec.ofNat 32 p.ring.head

/-- `(Ring.Tail - Ring.Head) mod Ring.Length`: bytes between head and tail, around the ring (10_state.md R47). -/
def Ring.pending (r : Ring) : Nat := (r.tail + (r.length - r.head % r.length)) % r.length

/-- The parser does not step: its ring is not programmed, or is empty (10_state.md R47, R85). -/
def Parser.idle (p : Parser) : Bool := !p.ring.valid || (!p.bb.active && p.ring.head == p.ring.tail)

/-- The `n` DWords of a command lie before the tail and before the end of the ring (10_state.md R46, R47). In a batch
buffer no tail is given (DEDUCED, log entry 15). -/
def Parser.available (p : Parser) (n : Nat) : Bool :=
  p.bb.active || (decide (p.ring.head + 4 * n ≤ p.ring.length) && decide (4 * n ≤ p.ring.pending))

/-- The head after a command of `n` DWords (10_state.md R46). -/
def Parser.advance (p : Parser) (n : Nat) : Parser :=
  if p.bb.active then { p with bb := { p.bb with head := p.bb.head + BitVec.ofNat 32 (4 * n) } }
  else { p with ring := { p.ring with head := (p.ring.head + 4 * n) % p.ring.length } }

/-- "After execution of every command, the actual head pointer is updated" (10_state.md R46). -/
def State.advance (s : State) (n : Nat) : State := s.setParser s.turn ((s.parser s.turn).advance n)

/-- Whether a byte offset from the start of a ring lies in `[Ring.Head, Ring.Tail)`; where the tail lies before the head,
around the ring: from the head to the end of the ring, and from its start to the tail (20_memory.md R131). -/
def Ring.live (r : Ring) (o : Nat) : Bool :=
  r.valid &&
    if r.head ≤ r.tail then decide (r.head ≤ o) && decide (o < r.tail)
    else (decide (r.head ≤ o) && decide (o < r.length)) || decide (o < r.tail)

/-- Whether a Graphics Address may have been prefetched by a parser: in the live part of its ring, or at or beyond the
head of an active batch buffer, whose end is not known (20_memory.md R131; log entry 30). -/
def Parser.live (p : Parser) (a : GraphicsAddress) : Bool :=
  p.ring.live (a - p.ring.start).toNat || (p.bb.active && decide (p.bb.head.toNat ≤ a.toNat))

/-- Whether a physical byte is mapped, in the table of a parser, at an address live for that parser. -/
def State.liveFor (s : State) (e : Engine) (pa : Nat) : Bool :=
  (s.tableOf e).entries.any fun x =>
    decide (x.1 < (s.tableOf e).size.entries) && decide (x.2.page = pa / Config.pageSize) &&
      (s.parser e).live (BitVec.ofNat 32 (x.1 * Config.pageSize + pa % Config.pageSize))

/-- Whether a write to these physical bytes modifies a command stream (20_memory.md R131, 60_exceptions.md R770). -/
def State.streamModified (s : State) (pas : List Nat) : Bool :=
  pas.any fun pa => s.liveFor .render pa || s.liveFor .video pa || s.liveFor .blitter pa

/-- A write by any agent: it stops where it modifies a command stream (20_memory.md R131). -/
def State.commit (s : State) (pas : List Nat) (bytes : List Byte) : Result :=
  if s.streamModified pas then .refused .commandStreamModified
  else .next (s.setPhys (writePhys s.phys pas bytes))

/-- `MemWrite(GFX, a, n, v)` through a table: nothing is written where a page is not mapped
(20_memory.md R98, 60_exceptions.md R772). 60_exceptions.md R771 gives `CommandStreamModified` no place in its order: a
write that touches an unmapped page and live command bytes at once answers the GTT error (DESIGN CHOICE, log entry 30). -/
def State.storeGfx (s : State) (i : TableId) (a : GraphicsAddress) (bytes : List Byte) : Result :=
  match (s.tableById i).plan a bytes.length with
  | .error b => .fault (.gttError b)
  | .ok pas => s.commit pas bytes

/-- The Graphics Address of DWord `k` of the per-process hardware status page of an engine
(49_logical_context.md R750). -/
def State.statusAddress (s : State) (e : Engine) (k : Nat) : GraphicsAddress :=
  ((s.parser e).statusPage ++ 0#12 : BitVec (20 + 12)) + BitVec.ofNat 32 (4 * k)

/-- `report_head(engine)` (49_logical_context.md R750): DWord 4 of the status page receives the contents of the head
pointer register, whose bits are not in the source: a free value (DESIGN CHOICE, log entry 12). -/
def State.reportHead (s : State) (e : Engine) : Result :=
  match s.storeGfx (s.tableIdOf e) (s.statusAddress e 4) (bytesOfWord (Config.headRegisterImage s.freeCounter)) with
  | .next t => .next t.bumpFree
  | .fault f => .fault f
  | .refused r => .refused r

/-- The Graphics Address of the first system-routine instruction: Instruction Base plus SIP
(60_exceptions.md R762, R764; 20_memory.md R111). -/
def Gpe.systemRoutine (g : Gpe) : Except Refusal GraphicsAddress :=
  match g.instructionBase, g.sip with
  | .holds b, .holds p =>
      if b.toNat * 4096 + p.toNat * 16 < 4294967296 then
        .ok (BitVec.ofNat 32 (b.toNat * 4096 + p.toNat * 16))
      else .error .addressOverflow
  | .unset, _ => .error .stateNeverWritten
  | _, .unset => .error .stateNeverWritten

/-- The instruction offset a thread continues at when it takes an exception: `S.SIP << 4` (60_exceptions.md R762). -/
def Gpe.sipOffset (g : Gpe) : Word :=
  match g.sip with
  | .holds p => (p ++ 0#4 : BitVec (28 + 4))
  | .unset => 0

/-- Exception entry of a thread: "hardware moves the current IP into this register and then jumps to SIP"
(60_exceptions.md R762). -/
def EuThread.enterException (t : EuThread) (sipOffset : Word) : EuThread := { t with aip := t.ip, ip := sipOffset }

/-- Taking an exception: the thread in slot `k` enters the System Routine (60_exceptions.md R762, R764). The entry
address is formed now; where no thread is, nothing happens. The return is not in the source (R763), nor whether exceptions
nest or a control register bit masks one: a thread already in the System Routine takes the next one too, its AIP
overwritten, whatever its CR holds (DESIGN CHOICE, log entry 22). -/
def State.takeException (s : State) (k : Nat) : Result :=
  match s.threads[k]? with
  | none => .next s
  | some t =>
      match s.gpe.systemRoutine with
      | .error r => .refused r
      | .ok _ => .next (s.setThreads (s.threads.set k (t.enterException s.gpe.sipOffset)))

/-- A thread with the EUID and TID of `t` exists: "A thread can be uniquely identified by the EUID and TID"
(10_state.md R73). -/
def State.slotTaken (s : State) (t : EuThread) : Bool :=
  s.threads.any fun u => decide (u.euid = t.euid) && decide (u.tid = t.tid)

/-- EUs that would have a thread, with a thread for `t` added. -/
def State.eusInUse (s : State) (t : EuThread) : Nat := (t.euid :: s.threads.map EuThread.euid).dedup.length

/-- The hardware has a slot for one more thread: at most `NUM_EUS * THREADS_PER_EU` in all, `THREADS_PER_EU` on an EU and
`NUM_EUS` EUs (00_scope.md R17, 10_state.md R33). -/
def State.hasRoom (s : State) (t : EuThread) : Bool :=
  decide (s.threads.length < s.variant.threadSlots) &&
    decide ((s.threads.filter fun u => decide (u.euid = t.euid)).length < s.variant.threadsPerEu) &&
    decide (s.eusInUse t ≤ s.variant.numEus)

/-- A thread is spawned where its slot is free and the hardware has one; else nothing happens
(10_state.md R33, R88; log entry 23). -/
def State.spawn (s : State) (t : EuThread) : State :=
  if s.slotTaken t || !s.hasRoom t then s else s.setThreads (s.threads ++ [t])

/-- A thread ends: "A message sideband signal on the Output message bus signifying that the message requester thread is
terminated" (00_scope.md R19, End Of Thread). It leaves the list and its slot is free for another; where no thread is,
nothing happens (log entry 23). -/
def State.endThread (s : State) (k : Nat) : State := s.setThreads (s.threads.eraseIdx k)

/-! ## Mask stack -/

/-- The mask stack entries held on chip: the first 16 (10_state.md R76). -/
def EuThread.maskOnChip (t : EuThread) : List Nat := t.maskStack.take Config.maskStackOnChip

/-- "storage of mask stack entries beyond the first 16": those in scratch space, whose form there is not in the source
(10_state.md R76; log entry 23). -/
def EuThread.maskInScratch (t : EuThread) : List Nat := t.maskStack.drop Config.maskStackOnChip

/-- Push an entry on the mask stack. -/
def EuThread.pushMask (t : EuThread) (m : Nat) : EuThread := { t with maskStack := t.maskStack ++ [m] }

/-- Take the newest entry off the mask stack. -/
def EuThread.popMask (t : EuThread) : EuThread := { t with maskStack := t.maskStack.dropLast }

/-- Replace the thread in slot `k` by what `f` makes of it; where none is, nothing happens. -/
def State.modifyThread (s : State) (k : Nat) (f : EuThread → EuThread) : State :=
  match s.threads[k]? with
  | none => s
  | some t => s.setThreads (s.threads.set k (f t))

/-! ## URB -/

/-- The entry a URB handle references (20_memory.md R93). -/
def State.urbEntry (s : State) (handle : Nat) : Option UrbEntry := Assoc.find? handle s.urb

/-- Data returned to a URB entry (10_state.md R81; log entry 50). -/
def State.urbWrite (s : State) (handle : Nat) (e : UrbEntry) : State := s.setUrb (Assoc.insert handle e s.urb)

/-! ## Caches -/

/-- The lines of a cache. -/
def Hidden.lines (h : Hidden) : CacheName → List Nat
  | .isc => h.isc
  | .texture => h.texture
  | .render => h.render
  | .constant => h.constant
  | .l3 => h.l3
  | .mlc => h.mlc
  | .ppgttDirectory => h.ppgttDirectory

/-- Replace the lines of a cache. -/
def Hidden.setLines (h : Hidden) (c : CacheName) (l : List Nat) : Hidden :=
  match c with
  | .isc => { h with isc := l }
  | .texture => { h with texture := l }
  | .render => { h with render := l }
  | .constant => { h with constant := l }
  | .l3 => { h with l3 := l }
  | .mlc => { h with mlc := l }
  | .ppgttDirectory => { h with ppgttDirectory := l }

/-- What a cache event does (10_state.md R77 to R79; 20_memory.md R132, R133): it changes no value any access reads
(R118). -/
def Hidden.apply (h : Hidden) : CacheOp → Hidden
  | .fill c line => h.setLines c ((h.lines c).insert line)
  | .fillLlc l => { h with llc := (h.llc.filter fun m => decide (m.line ≠ l.line)) ++ [l] }
  | .fillVertex v => { h with vertex := (h.vertex.filter fun w => decide (w.vertexIndex ≠ v.vertexIndex)) ++ [v] }
  | .flushLlcGfdt => { h with llc := h.llc.filter fun m => !m.gfdt }
  | .empty c => h.setLines c []

/-! ## The command DMA of the VCS -/

/-- Bytes of the ring in the cache line that holds byte `o` of it: a line, or what is left of the ring. -/
def Ring.lineBytes (r : Ring) (o : Nat) : Nat :=
  min Config.cacheLineSize (r.length - o / Config.cacheLineSize * Config.cacheLineSize)

/-- The DMA's head after the request of the line at `head`: past that line, or at the tail (10_state.md R48). -/
def Ring.dmaNext (r : Ring) (head tail : Nat) : Nat :=
  let next := head / Config.cacheLineSize * Config.cacheLineSize + r.lineBytes head
  if head < tail ∧ tail ≤ next then tail else next % r.length

/-- Some byte of a fetched line still lies between head and tail: it waits in the FIFO for the parser. -/
def FifoLine.waiting (l : FifoLine) (r : Ring) : Bool :=
  (List.range l.bytes.length).any fun k => r.live (l.offset + k)

/-- The FIFO without the lines the parser has done with. -/
def State.vcsWaiting (s : State) : List FifoLine := s.hidden.vcsFifo.filter fun l => l.waiting s.video.ring

/-- The DMA asks for a line: "There is guaranteed space in the DMA FIFO (16 CL deep)"; "Once the DMA copy of the head
pointer becomes equal to the tail pointer, the DMA stops requesting" (10_state.md R48). -/
def State.dmaRequests (s : State) : Bool :=
  s.video.ring.valid && decide (s.vcsWaiting.length < Config.dmaFifoLines) &&
    decide (s.hidden.vcsDmaHead ≠ s.hidden.vcsDmaTail)

/-- The line the DMA asks for next, in bytes from the start of the ring. -/
def State.dmaLine (s : State) : Nat := s.hidden.vcsDmaHead / Config.cacheLineSize * Config.cacheLineSize

/-- "The DMA requests cache lines from memory (one cacheline CL at a time)" and "increments the head pointer after making
requests" (10_state.md R48, R80). The parser reads commands from memory when it parses them (20_memory.md R131, the spec's
decision D10), so the FIFO is seen by nothing else (log entry 24). -/
def State.vcsDmaRequest (s : State) : Result :=
  if s.dmaRequests then
    match (s.tableOf .video).plan (s.video.ring.start + BitVec.ofNat 32 s.dmaLine)
        (s.video.ring.lineBytes s.hidden.vcsDmaHead) with
    | .error b => .fault (.gttError b)
    | .ok pas => .next (s.setHidden { s.hidden with
        vcsFifo := s.vcsWaiting ++ [⟨s.dmaLine, pas.map (readPhys s.phys)⟩]
        vcsDmaHead := s.video.ring.dmaNext s.hidden.vcsDmaHead s.hidden.vcsDmaTail })
  else .next (s.setHidden { s.hidden with vcsFifo := s.vcsWaiting })

/-- "The DMA control logic has copies of the head pointer and the tail pointer": a new ring loads both and empties the
FIFO (10_state.md R48; log entry 24). -/
def State.dmaProgram (s : State) (e : Engine) (head tail : Nat) : State :=
  match e with
  | .render => s
  | .blitter => s
  | .video => s.setHidden { s.hidden with vcsFifo := [], vcsDmaHead := head, vcsDmaTail := tail }

/-- A new tail is copied (10_state.md R48). -/
def State.dmaTail (s : State) (e : Engine) (tail : Nat) : State :=
  match e with
  | .render => s
  | .blitter => s
  | .video => s.setHidden { s.hidden with vcsDmaTail := tail }

end Sys2Proof.Machine
end

