-- ==== Sys2Proof/Machine/Operands.lean ====
section
/-! DEFINITION. Operands: lengths of commands (30_encoding.md R150 to R156), memory object control state (40_common_commands.md
R200, 20_memory.md R117, R118), memory access indirection and its bounds (20_memory.md R110 to R116). -/

namespace Sys2Proof.Machine

/-! ## Lengths -/

/-- `L` of a single-DWord command (30_encoding.md R151, R153). -/
def lengthSingle : Nat := 1

/-- `L` of an MI command of class 1Xh, 2Xh or 3Xh: `DW0[5:0] + 2` (30_encoding.md R151). -/
def lengthMi (data : BitVec 23) : Nat := (data.extractLsb' 0 6).toNat + 2

/-- `L` of MI_LOAD_REGISTER_IMM: `DW0[7:0] + 2` (30_encoding.md R151). -/
def lengthLri (data : BitVec 23) : Nat := (data.extractLsb' 0 8).toNat + 2

/-- `L` of a 2D command: `DW0[4:0] + 2` (30_encoding.md R152). -/
def length2d (data : BitVec 22) : Nat := (data.extractLsb' 0 5).toNat + 2

/-- `L` of a command of sub-type 0 or 3 on the render parser: `DW0[7:0] + 2` (30_encoding.md R153). -/
def length3d (data : BitVec 16) : Nat := (data.extractLsb' 0 8).toNat + 2

/-- `L` of a media command: `DW0[15:0] + 2` (30_encoding.md R153). -/
def lengthMedia (data : BitVec 27) : Nat := (data.extractLsb' 0 16).toNat + 2

/-- `L` of an MFX command: `DW0[15:0] + 2` (30_encoding.md R155). -/
def lengthMfx (data : BitVec 16) : Nat := data.toNat + 2

/-- `L` of an MI header whose opcode has no command, "for length reporting": 1 below opcode 10h, else `DW0[5:0] + 2`
(41_mi_commands.md R258). -/
def lengthReservedMi (header : Word) : Nat :=
  if (field header 23 6).toNat < 0x10 then 1 else (field header 0 6).toNat + 2

/-- A `U3-1` field: the field holds the value minus one (00_scope.md R9, 30_encoding.md R163). -/
def countFromField (f : BitVec 3) : Nat := f.toNat + 1

/-! ## Memory object control state -/

/-- Graphics Data Type: bit 2 (40_common_commands.md R200). -/
def mocsGfdt (m : BitVec 4) : Bool := m.getLsbD 2

/-- LLC Cacheability Control: bit 1 (40_common_commands.md R200). -/
def mocsLlccc (m : BitVec 4) : Bool := m.getLsbD 1

/-- L3 Cacheability Control: bit 0 (40_common_commands.md R200). -/
def mocsL3cc (m : BitVec 4) : Bool := m.getLsbD 0

/-- Bit 3 has no definition and must be zero (40_common_commands.md R200; log entry 31). -/
def mocsReserved (m : BitVec 4) : Bool := m.getLsbD 3

/-- "The effective GFDT is the logical OR of this field with the GFDT from the GTT entry" (20_memory.md R118). -/
def effectiveGfdt (m : BitVec 4) (e : PageEntry) : Bool := mocsGfdt m || e.gfdt

/-- Who decides LLC caching: 0 the GTT entry, 1 cached in LLC (40_common_commands.md R200). -/
inductive LlcControl where
  | fromGttEntry
  | cached
deriving DecidableEq, Repr

/-- LLC cacheability of an access (20_memory.md R118). -/
def llcControl (m : BitVec 4) : LlcControl := if mocsLlccc m then .cached else .fromGttEntry

/-- The memory objects of the control-state table (20_memory.md R117). -/
inductive MemoryObject where
  | surfaceStateSurface
  | depthBuffer
  | stencilBuffer
  | hierDepthBuffer
  | statelessBuffer
  | indirectGeneralState
  | indirectSurfaceState
  | indirectDynamicState
  | kernelInstructions
  | pushConstantBuffer
  | indexBuffer
  | vertexBuffer
  | indirectMediaObject
  | genericStatePrefetch
  | ringBatchBuffer
  | contextSaveBuffer
  | storeDword
deriving DecidableEq, Repr

/-- Where the control state of a memory object comes from (20_memory.md R117). -/
inductive ControlLocation where
  | surfaceState
  /-- The command that defines the object: one of those named. -/
  | definingCommand (mnemonics : List String)
  | stateBaseAddress (m : SVar 4)
  | gttOnly
deriving DecidableEq, Repr

/-- Location of control state by memory object (20_memory.md R117). -/
def Gpe.controlLocation (g : Gpe) : MemoryObject → ControlLocation
  | .surfaceStateSurface => .surfaceState
  | .depthBuffer => .definingCommand ["3DSTATE_DEPTH_BUFFER"]
  | .stencilBuffer => .definingCommand ["3DSTATE_STENCIL_BUFFER"]
  | .hierDepthBuffer => .definingCommand ["3DSTATE_HIER_DEPTH_BUFFER"]
  | .statelessBuffer => .stateBaseAddress g.statelessDataPortMocs
  | .indirectGeneralState => .stateBaseAddress g.generalStateMocs
  | .indirectSurfaceState => .stateBaseAddress g.surfaceStateMocs
  | .indirectDynamicState => .stateBaseAddress g.dynamicStateMocs
  | .kernelInstructions => .stateBaseAddress g.instructionMocs
  | .pushConstantBuffer => .definingCommand ["3DSTATE_CONSTANT_VS", "3DSTATE_CONSTANT_GS", "3DSTATE_CONSTANT_PS"]
  | .indexBuffer => .definingCommand ["3DSTATE_INDEX_BUFFER"]
  | .vertexBuffer => .definingCommand ["3DSTATE_VERTEX_BUFFERS"]
  | .indirectMediaObject => .stateBaseAddress g.indirectObjectMocs
  | .genericStatePrefetch => .gttOnly
  | .ringBatchBuffer => .gttOnly
  | .contextSaveBuffer => .gttOnly
  | .storeDword => .gttOnly

/-! ## Indirection -/

/-- The five bases (10_state.md R51). -/
inductive BaseKind where
  | general
  | surface
  | dynamicState
  | indirectObject
  | instruction
deriving DecidableEq, Repr

/-- Memory access paths of the table "Base Address Utilization" (20_memory.md R110), and scratch space, which "is reached
through the General State base" (10_state.md R76). -/
inductive AccessPath where
  | statelessDataPort
  | scratchSpace
  | samplerState
  | viewportState
  | colorCalcDepthStencilBlendState
  | pushConstants
  | euInstructions
  | systemRoutine
  | bindingTableState
  | surfaceState
  | mediaObjectIndirectData
  | ringAndBatchBuffers
  | pipeControlWrites
  | vertexFetch
  | samplerSurfaceData
  | dataPortOther
  | statePrefetch
  | physicalAccess
  | otherGttMapped
deriving DecidableEq, Repr

/-- The base an access path uses; `instpm` decides for push constants (20_memory.md R110; log entry 41). -/
def AccessPath.base (instpm : Word) : AccessPath → Option BaseKind
  | .statelessDataPort => some .general
  | .scratchSpace => some .general
  | .samplerState => some .dynamicState
  | .viewportState => some .dynamicState
  | .colorCalcDepthStencilBlendState => some .dynamicState
  | .pushConstants => if Config.pushConstantsUseNoBase instpm then none else some .dynamicState
  | .euInstructions => some .instruction
  | .systemRoutine => some .instruction
  | .bindingTableState => some .surface
  | .surfaceState => some .surface
  | .mediaObjectIndirectData => some .indirectObject
  | .ringAndBatchBuffers => none
  | .pipeControlWrites => none
  | .vertexFetch => none
  | .samplerSurfaceData => none
  | .dataPortOther => none
  | .statePrefetch => none
  | .physicalAccess => none
  | .otherGttMapped => none

/-- A base address variable (10_state.md R51). -/
def Gpe.base (g : Gpe) : BaseKind → SVar 20
  | .general => g.generalStateBase
  | .surface => g.surfaceStateBase
  | .dynamicState => g.dynamicStateBase
  | .indirectObject => g.indirectObjectBase
  | .instruction => g.instructionBase

/-- The upper bound that goes with a base; the Surface State base has none (10_state.md R53). -/
def Gpe.bound (g : Gpe) : BaseKind → Option (SVar 20)
  | .general => some g.generalStateBound
  | .surface => none
  | .dynamicState => some g.dynamicStateBound
  | .indirectObject => some g.indirectObjectBound
  | .instruction => some g.instructionBound

/-- Effective address: `(S.<Base> << 12) + o` (20_memory.md R111). An unset base is not read, and a sum above 32 bits is
refused (log entry 29). -/
def Gpe.effectiveAddress (g : Gpe) (k : BaseKind) (o : Nat) : Except Refusal Nat :=
  match g.base k with
  | .unset => .error .stateNeverWritten
  | .holds b => if b.toNat * 4096 + o < 4294967296 then .ok (b.toNat * 4096 + o) else .error .addressOverflow

/-- The bound values that disable the check: 0, and FFFFFh for the indirect object bound (20_memory.md R112, R115). -/
def boundDisabled (k : BaseKind) (b : BitVec 20) : Bool :=
  match k with
  | .indirectObject => b == 0 || b == 0xFFFFF
  | .general | .surface | .dynamicState | .instruction => b == 0

/-- Out of bounds: at or beyond the exclusive bound (20_memory.md R112). -/
def outOfBounds (k : BaseKind) (b : BitVec 20) (a : Nat) : Bool :=
  !boundDisabled k b && decide (b.toNat * 4096 ≤ a)

/-- Whether an address is out of the bound of a base; an unset bound is not read (10_state.md R84). -/
def Gpe.beyond (g : Gpe) (k : BaseKind) (a : Nat) : Except Refusal Bool :=
  match g.bound k with
  | none => .ok false
  | some .unset => .error .stateNeverWritten
  | some (.holds b) => .ok (outOfBounds k b a)

/-- The table that the accesses of EUs, samplers, the data port and the other units of the GPE go through. "Which table
(global GTT or PPGTT) a given access uses is not in the source" (20_memory.md R98): the model takes the render parser's
(DESIGN CHOICE, log entry 9). -/
def State.unitTable (s : State) : TableId := s.tableIdOf .render

/-- What one indirect read of a byte answers (20_memory.md R111 to R116), through the table of the GPE's units
(log entry 9). -/
def State.readIndirectByte (s : State) (k : BaseKind) (o : Nat) : Host.Outcome Byte Fault Refusal :=
  match s.gpe.effectiveAddress k o with
  | .error r => .refused r
  | .ok a =>
      match s.gpe.beyond k a with
      | .error r => .refused r
      | .ok true =>
          match k with
          | .general => .next (Config.generalStateUndefinedByte s.freeCounter a)
          | .instruction => .next (Config.instructionUndefinedByte s.freeCounter a)
          | .indirectObject => .next 0
          | .dynamicState | .surface => .refused .dynamicStateOutOfBounds
      | .ok false =>
          match s.readGfx s.unitTable (BitVec.ofNat 32 a) with
          | some b => .next b
          | none => .fault (.gttError (BitVec.ofNat 32 a))

/-- An indirect read of `n` bytes: the bound is compared for each byte (20_memory.md R112). -/
def State.readIndirect (s : State) (k : BaseKind) (o : Nat) : Nat → Host.Outcome (List Byte) Fault Refusal
  | 0 => .next []
  | n + 1 =>
      match s.readIndirectByte k o with
      | .refused r => .refused r
      | .fault f => .fault f
      | .next b =>
          match s.readIndirect k (o + 1) n with
          | .refused r => .refused r
          | .fault f => .fault f
          | .next bs => .next (b :: bs)

/-- The bytes of a stateless DataPort write that are in bounds, with their physical addresses: bytes at the General State
bound and beyond are "dropped on the floor" (20_memory.md R113). The table is that of the GPE's units (log entry 9). -/
def State.dataPortPlan (s : State) (o : Nat) : List Byte → Host.Outcome (List (Nat × Byte)) Fault Refusal
  | [] => .next []
  | b :: bs =>
      match s.gpe.effectiveAddress .general o with
      | .error r => .refused r
      | .ok a =>
          match s.gpe.beyond .general a with
          | .error r => .refused r
          | .ok true => s.dataPortPlan (o + 1) bs
          | .ok false =>
              match (s.tableById s.unitTable).translate (BitVec.ofNat 32 a) with
              | none => .fault (.gttError (BitVec.ofNat 32 a))
              | some p =>
                  match s.dataPortPlan (o + 1) bs with
                  | .refused r => .refused r
                  | .fault f => .fault f
                  | .next ps => .next ((p, b) :: ps)

/-- A stateless DataPort write at an offset from the General State base (20_memory.md R110, R113; log entry 29). -/
def State.dataPortStore (s : State) (o : Nat) (bytes : List Byte) : Result :=
  match s.dataPortPlan o bytes with
  | .refused r => .refused r
  | .fault f => .fault f
  | .next ps => s.commit (ps.map Prod.fst) (ps.map Prod.snd)

/-- A stateless DataPort write (20_memory.md R110, R113; log entry 29). -/
def State.dataPortWrite (s : State) (o : Word) (bytes : List Byte) : Result := s.dataPortStore o.toNat bytes

/-- The thread in slot `k` writes its scratch space, "reached through the General State base" (10_state.md R76): a
stateless write at its scratch offset; where no thread is, nothing happens (log entry 23). -/
def State.scratchWrite (s : State) (k offset : Nat) (bytes : List Byte) : Result :=
  match s.threads[k]? with
  | none => .next s
  | some t => s.dataPortStore (t.scratchOffset + offset) bytes

/-- `n` bytes of the scratch space of a thread (10_state.md R76). -/
def State.scratchRead (s : State) (t : EuThread) (offset n : Nat) : Host.Outcome (List Byte) Fault Refusal :=
  s.readIndirect .general (t.scratchOffset + offset) n

end Sys2Proof.Machine
end

