-- ==== Sys2Proof/Machine/Checks.lean ====
section
/-! DEFINITION. The checks on one command in the order of 60_exceptions.md R771 (steps 4 to 11), and how a command
completes or is refused (R772: a refused command changes nothing). -/

namespace Sys2Proof.Machine

/-- The first of two checks that refuses. -/
def orThen (first second : Option Refusal) : Option Refusal :=
  match first with
  | some r => some r
  | none => second

/-- A check that refuses where a condition holds. -/
def refuseIf (c : Bool) (r : Refusal) : Option Refusal := if c then some r else none

/-- What the pipe cells of an MI command's map row say (41_mi_commands.md R257, R259; 30_encoding.md R161). -/
inductive MiPipes where
  /-- "All" under every pipe, or no cells. -/
  | every
  /-- "All" under Render only. -/
  | renderOnly
  /-- No cells, and opcode class 1Xh, which the video parser reserves. -/
  | notVideo
deriving DecidableEq, Repr

/-- Step 4 for an MI command (30_encoding.md R161). -/
def admitMi (p : MiPipes) (e : Engine) : Option Refusal :=
  match p, e with
  | .every, _ => none
  | .renderOnly, .render => none
  | .renderOnly, .video => some .reservedOpcode
  | .renderOnly, .blitter => some .reservedOpcode
  | .notVideo, .render => none
  | .notVideo, .video => some .reservedOpcode
  | .notVideo, .blitter => none

/-- Steps 2 to 4 for a 2D command: client 2 is not valid on the video parser (30_encoding.md R147 to R149). -/
def admit2d : Engine → Option Refusal
  | .render => none
  | .video => some .reservedClient
  | .blitter => none

/-- Steps 2 to 4 for a client 3 command of the render parser (30_encoding.md R147 to R149). -/
def admitRender : Engine → Option Refusal
  | .render => none
  | .video => some .reservedOpcode
  | .blitter => some .reservedClient

/-- Steps 2 to 4 for an MFX command (30_encoding.md R147 to R149). -/
def admitMfx : Engine → Option Refusal
  | .render => some .reservedOpcode
  | .video => none
  | .blitter => some .reservedClient

/-- Step 5 for a command specific to the 3D pipeline: WrongPipeline while another, Media or GPGPU, is selected; "met while
S.PipelineSelect is unset" StateNeverWritten (43_3d_commands.md R321). -/
def State.check3d (s : State) : Option Refusal :=
  match s.gpe.pipelineSelect with
  | .unset => some .stateNeverWritten
  | .holds p => if p = 0 then none else some .wrongPipeline

/-- Step 5 for a command specific to the media pipeline: WrongPipeline while the 3D pipeline is selected alone; GPGPU is
"the other pipeline" only "for 3D commands" (43_3d_commands.md R321; 93_implementation_defined.md U3). -/
def State.checkMedia (s : State) : Option Refusal :=
  match s.gpe.pipelineSelect with
  | .unset => some .stateNeverWritten
  | .holds p => if p = 0 then some .wrongPipeline else none

/-- Steps 6 for a command whose body is not in the source: refused by name, with its length `L`
(30_encoding.md R160). -/
def refuseBody (admission : Option Refusal) (mnemonic : String) (length : Nat) : Result :=
  match admission with
  | some r => .refused r
  | none => .refused (.bodyNotInSource mnemonic length)

/-- The parser that steps has the whole command before its tail: step 8 (10_state.md R46, R47). -/
def State.tailCheck (s : State) (length : Nat) : Option Refusal :=
  refuseIf (!(s.parser s.turn).available length) .commandPastTail

/-- Steps 2 to 8 of a defined command with a DWord Length (30_encoding.md R156). -/
def State.headerChecks (s : State) (h : LenHeader) (legal : BitVec 8) (length : Nat) : Option Refusal :=
  orThen (admitRender s.turn) (orThen (refuseIf (h.dwordLength != legal) .badLength) (s.tailCheck length))

/-- Step 12: the state is written and the head moves past the command, or nothing happens (60_exceptions.md R772). -/
def complete (checks : Option Refusal) (length : Nat) (written : State) : Result :=
  match checks with
  | some r => .refused r
  | none => .next (written.advance length)

end Sys2Proof.Machine
end

