-- ==== Sys2Proof/Machine/Blt.lean ====
section
/-! DEFINITION. The 2D commands: none has a body in the source (42_2d_commands.md R280 to R307, 30_encoding.md R160). -/

namespace Sys2Proof.Machine

/-- XY_SETUP_BLT: no body in the source (42_2d_commands.md R281). -/
def execXySetupBlt (data : BitVec 22) (s : State) : Result :=
  refuseBody (admit2d s.turn) "XY_SETUP_BLT" (length2d data)

/-- XY_SETUP_CLIP_BLT: no body in the source (42_2d_commands.md R282). -/
def execXySetupClipBlt (data : BitVec 22) (s : State) : Result :=
  refuseBody (admit2d s.turn) "XY_SETUP_CLIP_BLT" (length2d data)

/-- XY_SETUP_MONO_PATTERN_SL_BLT: no body in the source (42_2d_commands.md R283). -/
def execXySetupMonoPatternSlBlt (data : BitVec 22) (s : State) : Result :=
  refuseBody (admit2d s.turn) "XY_SETUP_MONO_PATTERN_SL_BLT" (length2d data)

/-- XY_PIXEL_BLT: no body in the source (42_2d_commands.md R284). -/
def execXyPixelBlt (data : BitVec 22) (s : State) : Result :=
  refuseBody (admit2d s.turn) "XY_PIXEL_BLT" (length2d data)

/-- XY_SCANLINES_BLT: no body in the source (42_2d_commands.md R285). -/
def execXyScanlinesBlt (data : BitVec 22) (s : State) : Result :=
  refuseBody (admit2d s.turn) "XY_SCANLINES_BLT" (length2d data)

/-- XY_TEXT_BLT: no body in the source (42_2d_commands.md R286). -/
def execXyTextBlt (data : BitVec 22) (s : State) : Result :=
  refuseBody (admit2d s.turn) "XY_TEXT_BLT" (length2d data)

/-- XY_TEXT_IMMEDIATE_BLT: no body in the source (42_2d_commands.md R287). -/
def execXyTextImmediateBlt (data : BitVec 22) (s : State) : Result :=
  refuseBody (admit2d s.turn) "XY_TEXT_IMMEDIATE_BLT" (length2d data)

/-- COLOR_BLT: no body in the source (42_2d_commands.md R288). -/
def execColorBlt (data : BitVec 22) (s : State) : Result :=
  refuseBody (admit2d s.turn) "COLOR_BLT" (length2d data)

/-- SRC_COPY_BLT: no body in the source (42_2d_commands.md R289). -/
def execSrcCopyBlt (data : BitVec 22) (s : State) : Result :=
  refuseBody (admit2d s.turn) "SRC_COPY_BLT" (length2d data)

/-- XY_COLOR_BLT: no body in the source (42_2d_commands.md R290). -/
def execXyColorBlt (data : BitVec 22) (s : State) : Result :=
  refuseBody (admit2d s.turn) "XY_COLOR_BLT" (length2d data)

/-- XY_PAT_BLT: no body in the source (42_2d_commands.md R291). -/
def execXyPatBlt (data : BitVec 22) (s : State) : Result :=
  refuseBody (admit2d s.turn) "XY_PAT_BLT" (length2d data)

/-- XY_MONO_PAT_BLT: no body in the source (42_2d_commands.md R292). -/
def execXyMonoPatBlt (data : BitVec 22) (s : State) : Result :=
  refuseBody (admit2d s.turn) "XY_MONO_PAT_BLT" (length2d data)

/-- XY_SRC_COPY_BLT: no body in the source (42_2d_commands.md R293). -/
def execXySrcCopyBlt (data : BitVec 22) (s : State) : Result :=
  refuseBody (admit2d s.turn) "XY_SRC_COPY_BLT" (length2d data)

/-- XY_MONO_SRC_COPY_BLT: no body in the source (42_2d_commands.md R294). -/
def execXyMonoSrcCopyBlt (data : BitVec 22) (s : State) : Result :=
  refuseBody (admit2d s.turn) "XY_MONO_SRC_COPY_BLT" (length2d data)

/-- XY_FULL_BLT: no body in the source (42_2d_commands.md R295). -/
def execXyFullBlt (data : BitVec 22) (s : State) : Result :=
  refuseBody (admit2d s.turn) "XY_FULL_BLT" (length2d data)

/-- XY_FULL_MONO_SRC_BLT: no body in the source (42_2d_commands.md R296). -/
def execXyFullMonoSrcBlt (data : BitVec 22) (s : State) : Result :=
  refuseBody (admit2d s.turn) "XY_FULL_MONO_SRC_BLT" (length2d data)

/-- XY_FULL_MONO_PATTERN_BLT: no body in the source (42_2d_commands.md R297). -/
def execXyFullMonoPatternBlt (data : BitVec 22) (s : State) : Result :=
  refuseBody (admit2d s.turn) "XY_FULL_MONO_PATTERN_BLT" (length2d data)

/-- XY_FULL_MONO_PATTERN_MONO_SRC_BLT: no body in the source (42_2d_commands.md R298). -/
def execXyFullMonoPatternMonoSrcBlt (data : BitVec 22) (s : State) : Result :=
  refuseBody (admit2d s.turn) "XY_FULL_MONO_PATTERN_MONO_SRC_BLT" (length2d data)

/-- XY_MONO_PAT_FIXED_BLT: no body in the source (42_2d_commands.md R299). -/
def execXyMonoPatFixedBlt (data : BitVec 22) (s : State) : Result :=
  refuseBody (admit2d s.turn) "XY_MONO_PAT_FIXED_BLT" (length2d data)

/-- XY_MONO_SRC_COPY_IMMEDIATE_BLT: no body in the source (42_2d_commands.md R300). -/
def execXyMonoSrcCopyImmediateBlt (data : BitVec 22) (s : State) : Result :=
  refuseBody (admit2d s.turn) "XY_MONO_SRC_COPY_IMMEDIATE_BLT" (length2d data)

/-- XY_PAT_BLT_IMMEDIATE: no body in the source (42_2d_commands.md R301). -/
def execXyPatBltImmediate (data : BitVec 22) (s : State) : Result :=
  refuseBody (admit2d s.turn) "XY_PAT_BLT_IMMEDIATE" (length2d data)

/-- XY_SRC_COPY_CHROMA_BLT: no body in the source (42_2d_commands.md R302). -/
def execXySrcCopyChromaBlt (data : BitVec 22) (s : State) : Result :=
  refuseBody (admit2d s.turn) "XY_SRC_COPY_CHROMA_BLT" (length2d data)

/-- XY_FULL_IMMEDIATE_PATTERN_BLT: no body in the source (42_2d_commands.md R303). -/
def execXyFullImmediatePatternBlt (data : BitVec 22) (s : State) : Result :=
  refuseBody (admit2d s.turn) "XY_FULL_IMMEDIATE_PATTERN_BLT" (length2d data)

/-- XY_FULL_MONO_SRC_IMMEDIATE_PATTERN_BLT: no body in the source (42_2d_commands.md R304). -/
def execXyFullMonoSrcImmediatePatternBlt (data : BitVec 22) (s : State) : Result :=
  refuseBody (admit2d s.turn) "XY_FULL_MONO_SRC_IMMEDIATE_PATTERN_BLT" (length2d data)

/-- XY_PAT_CHROMA_BLT: no body in the source (42_2d_commands.md R305). -/
def execXyPatChromaBlt (data : BitVec 22) (s : State) : Result :=
  refuseBody (admit2d s.turn) "XY_PAT_CHROMA_BLT" (length2d data)

/-- XY_PAT_CHROMA_BLT_IMMEDIATE: no body in the source (42_2d_commands.md R306). -/
def execXyPatChromaBltImmediate (data : BitVec 22) (s : State) : Result :=
  refuseBody (admit2d s.turn) "XY_PAT_CHROMA_BLT_IMMEDIATE" (length2d data)

end Sys2Proof.Machine
end

