-- ==== Sys2Proof/Machine/Common.lean ====
section
/-! DEFINITION. The common GPE commands (40_common_commands.md R190 to R229). -/

namespace Sys2Proof.Machine

/-- Mark opaque items unset (10_state.md R57). -/
def State.forget (s : State) (items : List OpaqueItem) : State :=
  s.setOpaque (s.opaqueState.filter fun x => !items.contains x.item)

/-- What PIPELINE_SELECT takes away: "the URB allocation, URB fences and CURBE contents of the previous pipe are gone"
(40_common_commands.md R190; 70_reset_and_hazards.md R817). -/
def deallocatedByPipelineSelect : List OpaqueItem := [.urbAllocation, .urbFences, .curbe]

/-- The pointers that are stale after a change of any base: the union of the source's two lists
(40_common_commands.md R211). Whether 3DSTATE_CC_POINTERS of the second list is 3DSTATE_CC_STATE_POINTERS of the context
image is not in the source (43_3d_commands.md R411): both are marked (DESIGN CHOICE, log entry 25). -/
def staleAfterBaseChange : List OpaqueItem :=
  [.pipelinedPointers, .bindingTablePointers, .mediaStatePointers, .viewportStatePointers, .ccPointers,
    .saved3dCcStatePointers,
    .saved3dBindingTablePointersVs, .saved3dBindingTablePointersHs, .saved3dBindingTablePointersDs,
    .saved3dBindingTablePointersGs, .saved3dBindingTablePointersPs, .saved3dSamplerStatePointersVs,
    .saved3dSamplerStatePointersHs, .saved3dSamplerStatePointersDs, .saved3dSamplerStatePointersGs,
    .saved3dSamplerStatePointersPs, .saved3dViewportStatePointersClSf, .saved3dViewportStatePointersCc]

/-- The state PIPELINE_SELECT leaves: the entries of the URB go with their allocation (40_common_commands.md R190,
10_state.md R81). -/
def State.selectPipeline (s : State) (select : BitVec 2) : State :=
  ((s.setGpe { s.gpe with pipelineSelect := .holds select }).setUrb []).forget deallocatedByPipelineSelect

/-- PIPELINE_SELECT (40_common_commands.md R190). -/
def execPipelineSelect (reserved : BitVec 14) (select : BitVec 2) (s : State) : Result :=
  complete
    (orThen (admitRender s.turn) (orThen (s.tailCheck lengthSingle)
      (orThen (refuseIf (reserved != 0) .nonZeroMbz) (refuseIf (select == 3) .reservedValue))))
    lengthSingle (s.selectPipeline select)

/-- A variable under a Modify Enable bit keeps its value where the bit is 0 (40_common_commands.md R201, R210). -/
def SVar.modify {w : Nat} (old : SVar w) (enable : BitVec 1) (v : BitVec w) : SVar w :=
  if enable = 1 then .holds v else old

/-- The variables after STATE_BASE_ADDRESS; the nine updates are independent and take effect together
(40_common_commands.md R201). -/
def Gpe.updateBases (v : Gpe) (g : SbaGeneral) (sf dy ind ins : SbaBase) (gb db ib nb : SbaBound) : Gpe :=
  { v with
    generalStateBase := v.generalStateBase.modify g.modifyEnable g.base
    generalStateMocs := v.generalStateMocs.modify g.modifyEnable g.mocs
    statelessDataPortMocs := v.statelessDataPortMocs.modify g.modifyEnable g.dataPortMocs
    forceWriteThru := v.forceWriteThru.modify g.modifyEnable g.forceWriteThru
    surfaceStateBase := v.surfaceStateBase.modify sf.modifyEnable sf.base
    surfaceStateMocs := v.surfaceStateMocs.modify sf.modifyEnable sf.mocs
    dynamicStateBase := v.dynamicStateBase.modify dy.modifyEnable dy.base
    dynamicStateMocs := v.dynamicStateMocs.modify dy.modifyEnable dy.mocs
    indirectObjectBase := v.indirectObjectBase.modify ind.modifyEnable ind.base
    indirectObjectMocs := v.indirectObjectMocs.modify ind.modifyEnable ind.mocs
    instructionBase := v.instructionBase.modify ins.modifyEnable ins.base
    instructionMocs := v.instructionMocs.modify ins.modifyEnable ins.mocs
    generalStateBound := v.generalStateBound.modify gb.modifyEnable gb.bound
    dynamicStateBound := v.dynamicStateBound.modify db.modifyEnable db.bound
    indirectObjectBound := v.indirectObjectBound.modify ib.modifyEnable ib.bound
    instructionBound := v.instructionBound.modify nb.modifyEnable nb.bound }

/-- A reserved bit of DW1 is 1 (40_common_commands.md R200, R201). -/
def generalMbz (d : SbaGeneral) : Bool :=
  d.reserved != 0 || mocsReserved d.mocs || mocsReserved d.dataPortMocs

/-- A reserved bit of DW2 to DW5 is 1 (40_common_commands.md R200, R201). -/
def baseMbz (d : SbaBase) : Bool := d.reserved != 0 || mocsReserved d.mocs

/-- A reserved bit of DW6 to DW9 is 1 (40_common_commands.md R201). -/
def boundMbz (d : SbaBound) : Bool := d.reserved != 0

/-- A bound that is in force and not above its base; skipped while either is unset
(40_common_commands.md R201; 93_implementation_defined.md U14). -/
def boundNotAbove (k : BaseKind) : SVar 20 → SVar 20 → Bool
  | .holds bound, .holds base => !boundDisabled k bound && decide (bound.toNat ≤ base.toNat)
  | .unset, _ => false
  | _, .unset => false

/-- The two bound checks on the values the variables would hold (40_common_commands.md R201). -/
def Gpe.boundsViolated (g : Gpe) : Bool :=
  boundNotAbove .indirectObject g.indirectObjectBound g.indirectObjectBase ||
    boundNotAbove .instruction g.instructionBound g.instructionBase

/-- Some base differs: "any change to the base addresses" (40_common_commands.md R211; log entry 26). -/
def Gpe.basesDiffer (g h : Gpe) : Bool :=
  decide (g.generalStateBase ≠ h.generalStateBase) || decide (g.surfaceStateBase ≠ h.surfaceStateBase) ||
    decide (g.dynamicStateBase ≠ h.dynamicStateBase) || decide (g.indirectObjectBase ≠ h.indirectObjectBase) ||
    decide (g.instructionBase ≠ h.instructionBase)

/-- Write the new variables; pointers set before a change of base become unset (40_common_commands.md R211). -/
def State.rebase (s : State) (g : Gpe) : State :=
  if s.gpe.basesDiffer g then (s.setGpe g).forget staleAfterBaseChange else s.setGpe g

/-- STATE_BASE_ADDRESS (40_common_commands.md R201, R210, R211). -/
def execStateBaseAddress (h : LenHeader) (g : SbaGeneral) (sf dy ind ins : SbaBase) (gb db ib nb : SbaBound)
    (s : State) : Result :=
  complete
    (orThen (s.headerChecks h 8 10)
      (orThen
        (refuseIf (h.reserved != 0 || generalMbz g || baseMbz sf || baseMbz dy || baseMbz ind ||
          baseMbz ins || boundMbz gb || boundMbz db || boundMbz ib || boundMbz nb) .nonZeroMbz)
        (refuseIf (s.gpe.updateBases g sf dy ind ins gb db ib nb).boundsViolated .boundNotAboveBase)))
    10 (s.rebase (s.gpe.updateBases g sf dy ind ins gb db ib nb))

/-- STATE_SIP (40_common_commands.md R225). -/
def execStateSip (h : LenHeader) (sip : BitVec 28) (reserved : BitVec 4) (s : State) : Result :=
  complete
    (orThen (s.headerChecks h 0 2) (refuseIf (h.reserved != 0 || reserved != 0) .nonZeroMbz))
    2 (s.setGpe { s.gpe with sip := .holds sip })

/-- SWTESS_BASE_ADDRESS: the update is unconditional (40_common_commands.md R215). -/
def execSwtessBaseAddress (h : LenHeader) (base : BitVec 20) (mocs : BitVec 4) (reserved : BitVec 8) (s : State) :
    Result :=
  complete
    (orThen (s.headerChecks h 0 2)
      (refuseIf (h.reserved != 0 || reserved != 0 || mocsReserved mocs) .nonZeroMbz))
    2 (s.setGpe { s.gpe with swTessBase := .holds base, swTessMocs := .holds mocs })

/-- Byte address of a prefetch: `DW1[31:6] << 6` (40_common_commands.md R220). -/
def prefetchAddress (pointer : BitVec 26) : Nat := pointer.toNat * 64

/-- The prefetched bytes run past the end of the address space (40_common_commands.md R220). -/
def prefetchOverflows (pointer : BitVec 26) (count : BitVec 3) : Bool :=
  decide (4294967296 < prefetchAddress pointer + Config.cacheLineSize * countFromField count)

/-- STATE_PREFETCH: a hint with no architectural effect and no memory access (40_common_commands.md R220). -/
def execStatePrefetch (h : LenHeader) (pointer : BitVec 26) (reserved : BitVec 3) (count : BitVec 3) (s : State) :
    Result :=
  complete
    (orThen (s.headerChecks h 0 2)
      (orThen (refuseIf (h.reserved != 0 || reserved != 0) .nonZeroMbz)
        (refuseIf (prefetchOverflows pointer count) .addressOverflow)))
    2 s

/-- GPGPU_CSR_BASE_ADDRESS: no body in the source (40_common_commands.md R228). -/
def execGpgpuCsrBaseAddress (data : BitVec 16) (s : State) : Result :=
  refuseBody (admitRender s.turn) "GPGPU_CSR_BASE_ADDRESS" (length3d data)

end Sys2Proof.Machine
end

