-- ==== Sys2Proof/Machine/Mfx.lean ====
section
/-! DEFINITION. The MFX commands of the video parser: none has a body in the source (44_mfx_commands.md R450 to R479,
30_encoding.md R160). -/

namespace Sys2Proof.Machine

/-- MFX_PIPE_MODE_SELECT: no body in the source (44_mfx_commands.md R451). -/
def execMfxPipeModeSelect (data : BitVec 16) (s : State) : Result :=
  refuseBody (admitMfx s.turn) "MFX_PIPE_MODE_SELECT" (lengthMfx data)

/-- MFX_SURFACE_STATE: no body in the source (44_mfx_commands.md R452). -/
def execMfxSurfaceState (data : BitVec 16) (s : State) : Result :=
  refuseBody (admitMfx s.turn) "MFX_SURFACE_STATE" (lengthMfx data)

/-- MFX_PIPE_BUF_ADDR_STATE: no body in the source (44_mfx_commands.md R453). -/
def execMfxPipeBufAddrState (data : BitVec 16) (s : State) : Result :=
  refuseBody (admitMfx s.turn) "MFX_PIPE_BUF_ADDR_STATE" (lengthMfx data)

/-- MFX_IND_OBJ_BASE_ADDR_STATE: no body in the source (44_mfx_commands.md R454). -/
def execMfxIndObjBaseAddrState (data : BitVec 16) (s : State) : Result :=
  refuseBody (admitMfx s.turn) "MFX_IND_OBJ_BASE_ADDR_STATE" (lengthMfx data)

/-- MFX_BSP_BUF_BASE_ADDR_STATE: no body in the source (44_mfx_commands.md R455). -/
def execMfxBspBufBaseAddrState (data : BitVec 16) (s : State) : Result :=
  refuseBody (admitMfx s.turn) "MFX_BSP_BUF_BASE_ADDR_STATE" (lengthMfx data)

/-- MFX_0_0_5_UNNAMED: no body in the source (44_mfx_commands.md R456). -/
def execMfx005Unnamed (data : BitVec 16) (s : State) : Result :=
  refuseBody (admitMfx s.turn) "MFX_0_0_5_UNNAMED" (lengthMfx data)

/-- MFX_STATE_POINTER: no body in the source (44_mfx_commands.md R457). -/
def execMfxStatePointer (data : BitVec 16) (s : State) : Result :=
  refuseBody (admitMfx s.turn) "MFX_STATE_POINTER" (lengthMfx data)

/-- MFD_IT_OBJECT: no body in the source (44_mfx_commands.md R458). -/
def execMfdItObject (data : BitVec 16) (s : State) : Result :=
  refuseBody (admitMfx s.turn) "MFD_IT_OBJECT" (lengthMfx data)

/-- MFX_AVC_IMG_STATE: no body in the source (44_mfx_commands.md R459). -/
def execMfxAvcImgState (data : BitVec 16) (s : State) : Result :=
  refuseBody (admitMfx s.turn) "MFX_AVC_IMG_STATE" (lengthMfx data)

/-- MFX_AVC_QM_STATE: no body in the source (44_mfx_commands.md R460). -/
def execMfxAvcQmState (data : BitVec 16) (s : State) : Result :=
  refuseBody (admitMfx s.turn) "MFX_AVC_QM_STATE" (lengthMfx data)

/-- MFX_AVC_DIRECTMODE_STATE: no body in the source (44_mfx_commands.md R461). -/
def execMfxAvcDirectmodeState (data : BitVec 16) (s : State) : Result :=
  refuseBody (admitMfx s.turn) "MFX_AVC_DIRECTMODE_STATE" (lengthMfx data)

/-- MFX_AVC_SLICE_STATE: no body in the source (44_mfx_commands.md R462). -/
def execMfxAvcSliceState (data : BitVec 16) (s : State) : Result :=
  refuseBody (admitMfx s.turn) "MFX_AVC_SLICE_STATE" (lengthMfx data)

/-- MFX_AVC_REF_IDX_STATE: no body in the source (44_mfx_commands.md R463). -/
def execMfxAvcRefIdxState (data : BitVec 16) (s : State) : Result :=
  refuseBody (admitMfx s.turn) "MFX_AVC_REF_IDX_STATE" (lengthMfx data)

/-- MFX_AVC_WEIGHTOFFSET_STATE: no body in the source (44_mfx_commands.md R464). -/
def execMfxAvcWeightoffsetState (data : BitVec 16) (s : State) : Result :=
  refuseBody (admitMfx s.turn) "MFX_AVC_WEIGHTOFFSET_STATE" (lengthMfx data)

/-- MFD_AVC_BSD_OBJECT: no body in the source (44_mfx_commands.md R465). -/
def execMfdAvcBsdObject (data : BitVec 16) (s : State) : Result :=
  refuseBody (admitMfx s.turn) "MFD_AVC_BSD_OBJECT" (lengthMfx data)

/-- MFC_AVC_FQM_STATE: no body in the source (44_mfx_commands.md R466). -/
def execMfcAvcFqmState (data : BitVec 16) (s : State) : Result :=
  refuseBody (admitMfx s.turn) "MFC_AVC_FQM_STATE" (lengthMfx data)

/-- MFC_AVC_PAK_INSERT_OBJECT: no body in the source (44_mfx_commands.md R467). -/
def execMfcAvcPakInsertObject (data : BitVec 16) (s : State) : Result :=
  refuseBody (admitMfx s.turn) "MFC_AVC_PAK_INSERT_OBJECT" (lengthMfx data)

/-- MFC_AVC_PAK_OBJECT: no body in the source (44_mfx_commands.md R468). -/
def execMfcAvcPakObject (data : BitVec 16) (s : State) : Result :=
  refuseBody (admitMfx s.turn) "MFC_AVC_PAK_OBJECT" (lengthMfx data)

/-- MFX_VC1_PIC_STATE: no body in the source (44_mfx_commands.md R469). -/
def execMfxVc1PicState (data : BitVec 16) (s : State) : Result :=
  refuseBody (admitMfx s.turn) "MFX_VC1_PIC_STATE" (lengthMfx data)

/-- MFX_VC1_PRED_PIPE_STATE: no body in the source (44_mfx_commands.md R470). -/
def execMfxVc1PredPipeState (data : BitVec 16) (s : State) : Result :=
  refuseBody (admitMfx s.turn) "MFX_VC1_PRED_PIPE_STATE" (lengthMfx data)

/-- MFX_VC1_DIRECTMODE_STATE: no body in the source (44_mfx_commands.md R471). -/
def execMfxVc1DirectmodeState (data : BitVec 16) (s : State) : Result :=
  refuseBody (admitMfx s.turn) "MFX_VC1_DIRECTMODE_STATE" (lengthMfx data)

/-- MFD_VC1_BSD_OBJECT: no body in the source (44_mfx_commands.md R472). -/
def execMfdVc1BsdObject (data : BitVec 16) (s : State) : Result :=
  refuseBody (admitMfx s.turn) "MFD_VC1_BSD_OBJECT" (lengthMfx data)

/-- MFX_MPEG2_PIC_STATE: no body in the source (44_mfx_commands.md R473). -/
def execMfxMpeg2PicState (data : BitVec 16) (s : State) : Result :=
  refuseBody (admitMfx s.turn) "MFX_MPEG2_PIC_STATE" (lengthMfx data)

/-- MFX_MPEG2_QM_STATE: no body in the source (44_mfx_commands.md R474). -/
def execMfxMpeg2QmState (data : BitVec 16) (s : State) : Result :=
  refuseBody (admitMfx s.turn) "MFX_MPEG2_QM_STATE" (lengthMfx data)

/-- MFD_MPEG2_BSD_OBJECT: no body in the source (44_mfx_commands.md R475). -/
def execMfdMpeg2BsdObject (data : BitVec 16) (s : State) : Result :=
  refuseBody (admitMfx s.turn) "MFD_MPEG2_BSD_OBJECT" (lengthMfx data)

/-- The single-DWord MFX command, which has no name in the source (44_mfx_commands.md R477). -/
def execMfxSingleDwUnnamed (s : State) : Result :=
  refuseBody (admitMfx s.turn) "MFX_SINGLE_DW_UNNAMED" lengthSingle

end Sys2Proof.Machine
end

