-- ==== Sys2Proof/Machine/Mi.lean ====
section
/-! DEFINITION. Memory Interface commands (41_mi_commands.md R230 to R261). MI_NOOP has an effect in its all-zero form; the
source gives no other command a body (30_encoding.md R160). MI_USER_INTERRUPT and MI_REPORT_HEAD are refused too, unless the
machine's parameter `accepted` takes up what R781 of 60_exceptions.md and R750 of 49_logical_context.md leave to a model. -/

namespace Sys2Proof.Machine

/-- Steps 2 to 8 of an MI command whose one defined form has no operand bit set: any other form has no meaning in the
source (41_mi_commands.md R230; log entry 14). -/
def State.plainMiChecks (s : State) (mnemonic : String) (data : BitVec 23) : Option Refusal :=
  orThen (admitMi .every s.turn)
    (orThen (refuseIf (data != 0) (.bodyNotInSource mnemonic lengthSingle)) (s.tailCheck lengthSingle))

/-- MI_NOOP: the all-zero form changes no state (41_mi_commands.md R230). -/
def execMiNoop (data : BitVec 23) (s : State) : Result :=
  complete (s.plainMiChecks "MI_NOOP" data) lengthSingle s

/-- The checks of a command that has no body and that a model may accept: refused by name, as R160 of 30_encoding.md says,
where the machine does not accept it, else those of its all-zero form. -/
def State.optionalMiChecks (s : State) (accepts : Bool) (mnemonic : String) (data : BitVec 23) : Option Refusal :=
  orThen (refuseIf (!accepts) (.bodyNotInSource mnemonic lengthSingle)) (s.plainMiChecks mnemonic data)

/-- MI_USER_INTERRUPT: refused with `BodyNotInSource` (41_mi_commands.md R231). "a model that wishes to accept it may only
give it the effect of rule R784" (60_exceptions.md R781): where `accepted` says so, it appends a user interrupt to the trace
the host observes, and nothing else (log entry 11). -/
def execMiUserInterrupt (data : BitVec 23) (s : State) : Result :=
  complete (s.optionalMiChecks s.accepted.userInterrupt "MI_USER_INTERRUPT" data) lengthSingle
    (s.pushInterrupt ⟨s.turn, .user⟩)

/-- The parsers whose MI_REPORT_HEAD can store: the blitter "is therefore a parser that fetches, decodes and refuses; it
never writes memory" (42_2d_commands.md R308). -/
def State.acceptsReportHead (s : State) : Bool := s.accepted.reportHead && decide (s.turn ≠ .blitter)

/-- MI_REPORT_HEAD: refused with `BodyNotInSource` (41_mi_commands.md R235). Where `accepted` adds it as a trigger of the
store that 49_logical_context.md R750 fixes, it stores the head pointer register into DWord 4 of the status page, on the
render and video parsers (log entry 12). -/
def execMiReportHead (data : BitVec 23) (s : State) : Result :=
  match s.optionalMiChecks s.acceptsReportHead "MI_REPORT_HEAD" data with
  | some r => .refused r
  | none =>
      match s.reportHead s.turn with
      | .next t => .next (t.advance lengthSingle)
      | .fault f => .fault f
      | .refused r => .refused r

/-- MI_WAIT_FOR_EVENT: no body in the source (41_mi_commands.md R232). -/
def execMiWaitForEvent (_data : BitVec 23) (s : State) : Result :=
  refuseBody (admitMi .every s.turn) "MI_WAIT_FOR_EVENT" lengthSingle

/-- MI_OPCODE_04h_UNNAMED: no body in the source (41_mi_commands.md R233). -/
def execMiOpcode04hUnnamed (_data : BitVec 23) (s : State) : Result :=
  refuseBody (admitMi .renderOnly s.turn) "MI_OPCODE_04h_UNNAMED" lengthSingle

/-- MI_ARB_CHECK: no body in the source (41_mi_commands.md R234). -/
def execMiArbCheck (_data : BitVec 23) (s : State) : Result :=
  refuseBody (admitMi .every s.turn) "MI_ARB_CHECK" lengthSingle

/-- MI_ARB_ON_OFF: no body in the source (41_mi_commands.md R236). -/
def execMiArbOnOff (_data : BitVec 23) (s : State) : Result :=
  refuseBody (admitMi .every s.turn) "MI_ARB_ON_OFF" lengthSingle

/-- MI_BATCH_BUFFER_END: no body in the source (41_mi_commands.md R237). -/
def execMiBatchBufferEnd (_data : BitVec 23) (s : State) : Result :=
  refuseBody (admitMi .every s.turn) "MI_BATCH_BUFFER_END" lengthSingle

/-- MI_SUSPEND_FLUSH: no body in the source (41_mi_commands.md R238). -/
def execMiSuspendFlush (_data : BitVec 23) (s : State) : Result :=
  refuseBody (admitMi .every s.turn) "MI_SUSPEND_FLUSH" lengthSingle

/-- MI_PREDICATE: no body in the source (41_mi_commands.md R239). -/
def execMiPredicate (_data : BitVec 23) (s : State) : Result :=
  refuseBody (admitMi .every s.turn) "MI_PREDICATE" lengthSingle

/-- MI_TOPOLOGY_FILTER: no body in the source (41_mi_commands.md R240). -/
def execMiTopologyFilter (_data : BitVec 23) (s : State) : Result :=
  refuseBody (admitMi .every s.turn) "MI_TOPOLOGY_FILTER" lengthSingle

/-- MI_SET_APPID: no body in the source (41_mi_commands.md R241). -/
def execMiSetAppid (_data : BitVec 23) (s : State) : Result :=
  refuseBody (admitMi .every s.turn) "MI_SET_APPID" lengthSingle

/-- MI_DISPLAY_FLIP: no body in the source (41_mi_commands.md R242). -/
def execMiDisplayFlip (data : BitVec 23) (s : State) : Result :=
  refuseBody (admitMi .renderOnly s.turn) "MI_DISPLAY_FLIP" (lengthMi data)

/-- MI_SEMAPHORE_MBOX: no body in the source (41_mi_commands.md R243). -/
def execMiSemaphoreMbox (data : BitVec 23) (s : State) : Result :=
  refuseBody (admitMi .notVideo s.turn) "MI_SEMAPHORE_MBOX" (lengthMi data)

/-- MI_SET_CONTEXT: no body in the source (41_mi_commands.md R244). -/
def execMiSetContext (data : BitVec 23) (s : State) : Result :=
  refuseBody (admitMi .renderOnly s.turn) "MI_SET_CONTEXT" (lengthMi data)

/-- MI_MATH: no body in the source (41_mi_commands.md R245). -/
def execMiMath (data : BitVec 23) (s : State) : Result :=
  refuseBody (admitMi .notVideo s.turn) "MI_MATH" (lengthMi data)

/-- MI_STORE_DATA_IMM: no body in the source (41_mi_commands.md R246). -/
def execMiStoreDataImm (data : BitVec 23) (s : State) : Result :=
  refuseBody (admitMi .every s.turn) "MI_STORE_DATA_IMM" (lengthMi data)

/-- MI_STORE_DATA_INDEX: no body in the source (41_mi_commands.md R247). -/
def execMiStoreDataIndex (data : BitVec 23) (s : State) : Result :=
  refuseBody (admitMi .every s.turn) "MI_STORE_DATA_INDEX" (lengthMi data)

/-- MI_LOAD_REGISTER_IMM: no body in the source (41_mi_commands.md R248). -/
def execMiLoadRegisterImm (data : BitVec 23) (s : State) : Result :=
  refuseBody (admitMi .every s.turn) "MI_LOAD_REGISTER_IMM" (lengthLri data)

/-- MI_UPDATE_GTT: no body in the source (41_mi_commands.md R249). -/
def execMiUpdateGtt (data : BitVec 23) (s : State) : Result :=
  refuseBody (admitMi .every s.turn) "MI_UPDATE_GTT" (lengthMi data)

/-- MI_STORE_REGISTER_MEM: no body in the source (41_mi_commands.md R250). -/
def execMiStoreRegisterMem (data : BitVec 23) (s : State) : Result :=
  refuseBody (admitMi .every s.turn) "MI_STORE_REGISTER_MEM" (lengthMi data)

/-- MI_FLUSH_DW: no body in the source (41_mi_commands.md R251). -/
def execMiFlushDw (data : BitVec 23) (s : State) : Result :=
  refuseBody (admitMi .every s.turn) "MI_FLUSH_DW" (lengthMi data)

/-- MI_CLFLUSH: no body in the source (41_mi_commands.md R252). -/
def execMiClflush (data : BitVec 23) (s : State) : Result :=
  refuseBody (admitMi .every s.turn) "MI_CLFLUSH" (lengthMi data)

/-- MI_REPORT_PERF_COUNT: no body in the source (41_mi_commands.md R253). -/
def execMiReportPerfCount (data : BitVec 23) (s : State) : Result :=
  refuseBody (admitMi .every s.turn) "MI_REPORT_PERF_COUNT" (lengthMi data)

/-- MI_LOAD_REGISTER_MEM: no body in the source (41_mi_commands.md R254). -/
def execMiLoadRegisterMem (data : BitVec 23) (s : State) : Result :=
  refuseBody (admitMi .every s.turn) "MI_LOAD_REGISTER_MEM" (lengthMi data)

/-- MI_BATCH_BUFFER_START: no body in the source (41_mi_commands.md R255). -/
def execMiBatchBufferStart (data : BitVec 23) (s : State) : Result :=
  refuseBody (admitMi .every s.turn) "MI_BATCH_BUFFER_START" (lengthMi data)

/-- MI_CONDITIONAL_BATCH_BUFFER_END: no body in the source (41_mi_commands.md R256). -/
def execMiConditionalBatchBufferEnd (data : BitVec 23) (s : State) : Result :=
  refuseBody (admitMi .every s.turn) "MI_CONDITIONAL_BATCH_BUFFER_END" (lengthMi data)

end Sys2Proof.Machine
end

