-- ==== Sys2Proof/Machine/ThreeD.lean ====
section
/-! DEFINITION. The 3D and media commands: none has a body in the source (43_3d_commands.md R320 to R421,
30_encoding.md R160). The pipeline check comes before the refusal (R321, 60_exceptions.md R771). -/

namespace Sys2Proof.Machine

/-- Steps 2 to 5 of a command specific to the 3D pipeline (43_3d_commands.md R321). -/
def State.admit3d (s : State) : Option Refusal := orThen (admitRender s.turn) s.check3d

/-- Steps 2 to 5 of a command specific to the media pipeline (43_3d_commands.md R321). -/
def State.admitMedia (s : State) : Option Refusal := orThen (admitRender s.turn) s.checkMedia

/-- 3DSTATE_CLEAR_PARAMS: 3D-pipeline-specific; no body in the source (43_3d_commands.md R322). -/
def execState3dClearParams (data : BitVec 16) (s : State) : Result :=
  refuseBody s.admit3d "3DSTATE_CLEAR_PARAMS" (length3d data)

/-- 3DSTATE_DEPTH_BUFFER: 3D-pipeline-specific; no body in the source (43_3d_commands.md R323). -/
def execState3dDepthBuffer (data : BitVec 16) (s : State) : Result :=
  refuseBody s.admit3d "3DSTATE_DEPTH_BUFFER" (length3d data)

/-- 3DSTATE_STENCIL_BUFFER: 3D-pipeline-specific; no body in the source (43_3d_commands.md R324). -/
def execState3dStencilBuffer (data : BitVec 16) (s : State) : Result :=
  refuseBody s.admit3d "3DSTATE_STENCIL_BUFFER" (length3d data)

/-- 3DSTATE_HIER_DEPTH_BUFFER: 3D-pipeline-specific; no body in the source (43_3d_commands.md R325). -/
def execState3dHierDepthBuffer (data : BitVec 16) (s : State) : Result :=
  refuseBody s.admit3d "3DSTATE_HIER_DEPTH_BUFFER" (length3d data)

/-- 3DSTATE_VERTEX_BUFFERS: 3D-pipeline-specific; no body in the source (43_3d_commands.md R326). -/
def execState3dVertexBuffers (data : BitVec 16) (s : State) : Result :=
  refuseBody s.admit3d "3DSTATE_VERTEX_BUFFERS" (length3d data)

/-- 3DSTATE_VERTEX_ELEMENTS: 3D-pipeline-specific; no body in the source (43_3d_commands.md R327). -/
def execState3dVertexElements (data : BitVec 16) (s : State) : Result :=
  refuseBody s.admit3d "3DSTATE_VERTEX_ELEMENTS" (length3d data)

/-- 3DSTATE_INDEX_BUFFER: 3D-pipeline-specific; no body in the source (43_3d_commands.md R328). -/
def execState3dIndexBuffer (data : BitVec 16) (s : State) : Result :=
  refuseBody s.admit3d "3DSTATE_INDEX_BUFFER" (length3d data)

/-- 3DSTATE_VF_STATISTICS: 3D-pipeline-specific; no body in the source (43_3d_commands.md R329). -/
def execState3dVfStatistics (data : BitVec 16) (s : State) : Result :=
  refuseBody s.admit3d "3DSTATE_VF_STATISTICS" (length3d data)

/-- 3DSTATE_VIEWPORT_STATE_POINTERS: 3D-pipeline-specific; no body in the source (43_3d_commands.md R330). -/
def execState3dViewportStatePointers (data : BitVec 16) (s : State) : Result :=
  refuseBody s.admit3d "3DSTATE_VIEWPORT_STATE_POINTERS" (length3d data)

/-- 3DSTATE_VS: 3D-pipeline-specific; no body in the source (43_3d_commands.md R331). -/
def execState3dVs (data : BitVec 16) (s : State) : Result :=
  refuseBody s.admit3d "3DSTATE_VS" (length3d data)

/-- 3DSTATE_GS: 3D-pipeline-specific; no body in the source (43_3d_commands.md R332). -/
def execState3dGs (data : BitVec 16) (s : State) : Result :=
  refuseBody s.admit3d "3DSTATE_GS" (length3d data)

/-- 3DSTATE_CLIP: 3D-pipeline-specific; no body in the source (43_3d_commands.md R333). -/
def execState3dClip (data : BitVec 16) (s : State) : Result :=
  refuseBody s.admit3d "3DSTATE_CLIP" (length3d data)

/-- 3DSTATE_SF: 3D-pipeline-specific; no body in the source (43_3d_commands.md R334). -/
def execState3dSf (data : BitVec 16) (s : State) : Result :=
  refuseBody s.admit3d "3DSTATE_SF" (length3d data)

/-- 3DSTATE_WM: 3D-pipeline-specific; no body in the source (43_3d_commands.md R335). -/
def execState3dWm (data : BitVec 16) (s : State) : Result :=
  refuseBody s.admit3d "3DSTATE_WM" (length3d data)

/-- 3DSTATE_CONSTANT_VS: 3D-pipeline-specific; no body in the source (43_3d_commands.md R336). -/
def execState3dConstantVs (data : BitVec 16) (s : State) : Result :=
  refuseBody s.admit3d "3DSTATE_CONSTANT_VS" (length3d data)

/-- 3DSTATE_CONSTANT_GS: 3D-pipeline-specific; no body in the source (43_3d_commands.md R337). -/
def execState3dConstantGs (data : BitVec 16) (s : State) : Result :=
  refuseBody s.admit3d "3DSTATE_CONSTANT_GS" (length3d data)

/-- 3DSTATE_CONSTANT_PS: 3D-pipeline-specific; no body in the source (43_3d_commands.md R338). -/
def execState3dConstantPs (data : BitVec 16) (s : State) : Result :=
  refuseBody s.admit3d "3DSTATE_CONSTANT_PS" (length3d data)

/-- 3DSTATE_SAMPLE_MASK: 3D-pipeline-specific; no body in the source (43_3d_commands.md R339). -/
def execState3dSampleMask (data : BitVec 16) (s : State) : Result :=
  refuseBody s.admit3d "3DSTATE_SAMPLE_MASK" (length3d data)

/-- 3DSTATE_CONSTANT_HS: 3D-pipeline-specific; no body in the source (43_3d_commands.md R340). -/
def execState3dConstantHs (data : BitVec 16) (s : State) : Result :=
  refuseBody s.admit3d "3DSTATE_CONSTANT_HS" (length3d data)

/-- 3DSTATE_CONSTANT_DS: 3D-pipeline-specific; no body in the source (43_3d_commands.md R341). -/
def execState3dConstantDs (data : BitVec 16) (s : State) : Result :=
  refuseBody s.admit3d "3DSTATE_CONSTANT_DS" (length3d data)

/-- 3DSTATE_HS: 3D-pipeline-specific; no body in the source (43_3d_commands.md R342). -/
def execState3dHs (data : BitVec 16) (s : State) : Result :=
  refuseBody s.admit3d "3DSTATE_HS" (length3d data)

/-- 3DSTATE_TE: 3D-pipeline-specific; no body in the source (43_3d_commands.md R343). -/
def execState3dTe (data : BitVec 16) (s : State) : Result :=
  refuseBody s.admit3d "3DSTATE_TE" (length3d data)

/-- 3DSTATE_DS: 3D-pipeline-specific; no body in the source (43_3d_commands.md R344). -/
def execState3dDs (data : BitVec 16) (s : State) : Result :=
  refuseBody s.admit3d "3DSTATE_DS" (length3d data)

/-- 3DSTATE_STREAMOUT: 3D-pipeline-specific; no body in the source (43_3d_commands.md R345). -/
def execState3dStreamout (data : BitVec 16) (s : State) : Result :=
  refuseBody s.admit3d "3DSTATE_STREAMOUT" (length3d data)

/-- 3DSTATE_SBE: 3D-pipeline-specific; no body in the source (43_3d_commands.md R346). -/
def execState3dSbe (data : BitVec 16) (s : State) : Result :=
  refuseBody s.admit3d "3DSTATE_SBE" (length3d data)

/-- 3DSTATE_PS: 3D-pipeline-specific; no body in the source (43_3d_commands.md R347). -/
def execState3dPs (data : BitVec 16) (s : State) : Result :=
  refuseBody s.admit3d "3DSTATE_PS" (length3d data)

/-- 3DSTATE_VIEWPORT_STATE_POINTERS_SF_CLIP: 3D-pipeline-specific; no body in the source (43_3d_commands.md R348). -/
def execState3dViewportStatePointersSfClip (data : BitVec 16) (s : State) : Result :=
  refuseBody s.admit3d "3DSTATE_VIEWPORT_STATE_POINTERS_SF_CLIP" (length3d data)

/-- 3DSTATE_VIEWPORT_STATE_POINTERS_CC: 3D-pipeline-specific; no body in the source (43_3d_commands.md R349). -/
def execState3dViewportStatePointersCc (data : BitVec 16) (s : State) : Result :=
  refuseBody s.admit3d "3DSTATE_VIEWPORT_STATE_POINTERS_CC" (length3d data)

/-- 3DSTATE_BLEND_STATE_POINTERS: 3D-pipeline-specific; no body in the source (43_3d_commands.md R350). -/
def execState3dBlendStatePointers (data : BitVec 16) (s : State) : Result :=
  refuseBody s.admit3d "3DSTATE_BLEND_STATE_POINTERS" (length3d data)

/-- 3DSTATE_DEPTH_STENCIL_STATE_POINTERS: 3D-pipeline-specific; no body in the source (43_3d_commands.md R351). -/
def execState3dDepthStencilStatePointers (data : BitVec 16) (s : State) : Result :=
  refuseBody s.admit3d "3DSTATE_DEPTH_STENCIL_STATE_POINTERS" (length3d data)

/-- 3DSTATE_BINDING_TABLE_POINTERS_VS: 3D-pipeline-specific; no body in the source (43_3d_commands.md R352). -/
def execState3dBindingTablePointersVs (data : BitVec 16) (s : State) : Result :=
  refuseBody s.admit3d "3DSTATE_BINDING_TABLE_POINTERS_VS" (length3d data)

/-- 3DSTATE_BINDING_TABLE_POINTERS_HS: 3D-pipeline-specific; no body in the source (43_3d_commands.md R353). -/
def execState3dBindingTablePointersHs (data : BitVec 16) (s : State) : Result :=
  refuseBody s.admit3d "3DSTATE_BINDING_TABLE_POINTERS_HS" (length3d data)

/-- 3DSTATE_BINDING_TABLE_POINTERS_DS: 3D-pipeline-specific; no body in the source (43_3d_commands.md R354). -/
def execState3dBindingTablePointersDs (data : BitVec 16) (s : State) : Result :=
  refuseBody s.admit3d "3DSTATE_BINDING_TABLE_POINTERS_DS" (length3d data)

/-- 3DSTATE_BINDING_TABLE_POINTERS_GS: 3D-pipeline-specific; no body in the source (43_3d_commands.md R355). -/
def execState3dBindingTablePointersGs (data : BitVec 16) (s : State) : Result :=
  refuseBody s.admit3d "3DSTATE_BINDING_TABLE_POINTERS_GS" (length3d data)

/-- 3DSTATE_BINDING_TABLE_POINTERS_PS: 3D-pipeline-specific; no body in the source (43_3d_commands.md R356). -/
def execState3dBindingTablePointersPs (data : BitVec 16) (s : State) : Result :=
  refuseBody s.admit3d "3DSTATE_BINDING_TABLE_POINTERS_PS" (length3d data)

/-- 3DSTATE_SAMPLER_STATE_POINTERS_VS: 3D-pipeline-specific; no body in the source (43_3d_commands.md R357). -/
def execState3dSamplerStatePointersVs (data : BitVec 16) (s : State) : Result :=
  refuseBody s.admit3d "3DSTATE_SAMPLER_STATE_POINTERS_VS" (length3d data)

/-- 3DSTATE_SAMPLER_STATE_POINTERS_HS: 3D-pipeline-specific; no body in the source (43_3d_commands.md R358). -/
def execState3dSamplerStatePointersHs (data : BitVec 16) (s : State) : Result :=
  refuseBody s.admit3d "3DSTATE_SAMPLER_STATE_POINTERS_HS" (length3d data)

/-- 3DSTATE_SAMPLER_STATE_POINTERS_DS: 3D-pipeline-specific; no body in the source (43_3d_commands.md R359). -/
def execState3dSamplerStatePointersDs (data : BitVec 16) (s : State) : Result :=
  refuseBody s.admit3d "3DSTATE_SAMPLER_STATE_POINTERS_DS" (length3d data)

/-- 3DSTATE_SAMPLER_STATE_POINTERS_GS: 3D-pipeline-specific; no body in the source (43_3d_commands.md R360). -/
def execState3dSamplerStatePointersGs (data : BitVec 16) (s : State) : Result :=
  refuseBody s.admit3d "3DSTATE_SAMPLER_STATE_POINTERS_GS" (length3d data)

/-- 3DSTATE_URB_VS: 3D-pipeline-specific; no body in the source (43_3d_commands.md R361). -/
def execState3dUrbVs (data : BitVec 16) (s : State) : Result :=
  refuseBody s.admit3d "3DSTATE_URB_VS" (length3d data)

/-- 3DSTATE_URB_HS: 3D-pipeline-specific; no body in the source (43_3d_commands.md R362). -/
def execState3dUrbHs (data : BitVec 16) (s : State) : Result :=
  refuseBody s.admit3d "3DSTATE_URB_HS" (length3d data)

/-- 3DSTATE_URB_DS: 3D-pipeline-specific; no body in the source (43_3d_commands.md R363). -/
def execState3dUrbDs (data : BitVec 16) (s : State) : Result :=
  refuseBody s.admit3d "3DSTATE_URB_DS" (length3d data)

/-- 3DSTATE_URB_GS: 3D-pipeline-specific; no body in the source (43_3d_commands.md R364). -/
def execState3dUrbGs (data : BitVec 16) (s : State) : Result :=
  refuseBody s.admit3d "3DSTATE_URB_GS" (length3d data)

/-- 3DSTATE_WM_CHROMA_KEY: 3D-pipeline-specific; no body in the source (43_3d_commands.md R365). -/
def execState3dWmChromaKey (data : BitVec 16) (s : State) : Result :=
  refuseBody s.admit3d "3DSTATE_WM_CHROMA_KEY" (length3d data)

/-- 3DSTATE_PS_BLEND: 3D-pipeline-specific; no body in the source (43_3d_commands.md R366). -/
def execState3dPsBlend (data : BitVec 16) (s : State) : Result :=
  refuseBody s.admit3d "3DSTATE_PS_BLEND" (length3d data)

/-- 3DSTATE_WM_DEPTH_STENCIL: 3D-pipeline-specific; no body in the source (43_3d_commands.md R367). -/
def execState3dWmDepthStencil (data : BitVec 16) (s : State) : Result :=
  refuseBody s.admit3d "3DSTATE_WM_DEPTH_STENCIL" (length3d data)

/-- 3DSTATE_PS_EXTRA: 3D-pipeline-specific; no body in the source (43_3d_commands.md R368). -/
def execState3dPsExtra (data : BitVec 16) (s : State) : Result :=
  refuseBody s.admit3d "3DSTATE_PS_EXTRA" (length3d data)

/-- 3DSTATE_RASTER: 3D-pipeline-specific; no body in the source (43_3d_commands.md R369). -/
def execState3dRaster (data : BitVec 16) (s : State) : Result :=
  refuseBody s.admit3d "3DSTATE_RASTER" (length3d data)

/-- 3DSTATE_SBE_SWIZ: 3D-pipeline-specific; no body in the source (43_3d_commands.md R370). -/
def execState3dSbeSwiz (data : BitVec 16) (s : State) : Result :=
  refuseBody s.admit3d "3DSTATE_SBE_SWIZ" (length3d data)

/-- 3DSTATE_WM_HZ_OP: 3D-pipeline-specific; no body in the source (43_3d_commands.md R371). -/
def execState3dWmHzOp (data : BitVec 16) (s : State) : Result :=
  refuseBody s.admit3d "3DSTATE_WM_HZ_OP" (length3d data)

/-- 3DSTATE_INT: 3D-pipeline-specific; no body in the source (43_3d_commands.md R372). -/
def execState3dInt (data : BitVec 16) (s : State) : Result :=
  refuseBody s.admit3d "3DSTATE_INT" (length3d data)

/-- 3DSTATE_DRAWING_RECTANGLE: 3D-pipeline-specific; no body in the source (43_3d_commands.md R373). -/
def execState3dDrawingRectangle (data : BitVec 16) (s : State) : Result :=
  refuseBody s.admit3d "3DSTATE_DRAWING_RECTANGLE" (length3d data)

/-- 3DSTATE_SAMPLER_PALETTE_LOAD0: common to both pipelines; no body in the source (43_3d_commands.md R374). -/
def execState3dSamplerPaletteLoad0 (data : BitVec 16) (s : State) : Result :=
  refuseBody (admitRender s.turn) "3DSTATE_SAMPLER_PALETTE_LOAD0" (length3d data)

/-- 3DSTATE_CHROMA_KEY: common to both pipelines; no body in the source (43_3d_commands.md R375). -/
def execState3dChromaKey (data : BitVec 16) (s : State) : Result :=
  refuseBody (admitRender s.turn) "3DSTATE_CHROMA_KEY" (length3d data)

/-- 3DSTATE_POLY_STIPPLE_OFFSET: 3D-pipeline-specific; no body in the source (43_3d_commands.md R376). -/
def execState3dPolyStippleOffset (data : BitVec 16) (s : State) : Result :=
  refuseBody s.admit3d "3DSTATE_POLY_STIPPLE_OFFSET" (length3d data)

/-- 3DSTATE_POLY_STIPPLE_PATTERN: 3D-pipeline-specific; no body in the source (43_3d_commands.md R377). -/
def execState3dPolyStipplePattern (data : BitVec 16) (s : State) : Result :=
  refuseBody s.admit3d "3DSTATE_POLY_STIPPLE_PATTERN" (length3d data)

/-- 3DSTATE_LINE_STIPPLE: 3D-pipeline-specific; no body in the source (43_3d_commands.md R378). -/
def execState3dLineStipple (data : BitVec 16) (s : State) : Result :=
  refuseBody s.admit3d "3DSTATE_LINE_STIPPLE" (length3d data)

/-- 3DSTATE_AA_LINE_PARAMS: 3D-pipeline-specific; no body in the source (43_3d_commands.md R379). -/
def execState3dAaLineParams (data : BitVec 16) (s : State) : Result :=
  refuseBody s.admit3d "3DSTATE_AA_LINE_PARAMS" (length3d data)

/-- 3DSTATE_GS_SVB_INDEX: 3D-pipeline-specific; no body in the source (43_3d_commands.md R380). -/
def execState3dGsSvbIndex (data : BitVec 16) (s : State) : Result :=
  refuseBody s.admit3d "3DSTATE_GS_SVB_INDEX" (length3d data)

/-- 3DSTATE_SAMPLER_PALETTE_LOAD1: common to both pipelines; no body in the source (43_3d_commands.md R381). -/
def execState3dSamplerPaletteLoad1 (data : BitVec 16) (s : State) : Result :=
  refuseBody (admitRender s.turn) "3DSTATE_SAMPLER_PALETTE_LOAD1" (length3d data)

/-- 3DSTATE_MULTISAMPLE: 3D-pipeline-specific; no body in the source (43_3d_commands.md R382). -/
def execState3dMultisample (data : BitVec 16) (s : State) : Result :=
  refuseBody s.admit3d "3DSTATE_MULTISAMPLE" (length3d data)

/-- 3DSTATE_STENCIL_BUFFER: 3D-pipeline-specific; no body in the source (43_3d_commands.md R383). -/
def execState3dStencilBufferNp (data : BitVec 16) (s : State) : Result :=
  refuseBody s.admit3d "3DSTATE_STENCIL_BUFFER" (length3d data)

/-- 3DSTATE_HIER_DEPTH_BUFFER: 3D-pipeline-specific; no body in the source (43_3d_commands.md R384). -/
def execState3dHierDepthBufferNp (data : BitVec 16) (s : State) : Result :=
  refuseBody s.admit3d "3DSTATE_HIER_DEPTH_BUFFER" (length3d data)

/-- 3DSTATE_CLEAR_PARAMS: 3D-pipeline-specific; no body in the source (43_3d_commands.md R385). -/
def execState3dClearParamsNp (data : BitVec 16) (s : State) : Result :=
  refuseBody s.admit3d "3DSTATE_CLEAR_PARAMS" (length3d data)

/-- 3DSTATE_MONOFILTER_SIZE: common to both pipelines; no body in the source (43_3d_commands.md R386). -/
def execState3dMonofilterSize (data : BitVec 16) (s : State) : Result :=
  refuseBody (admitRender s.turn) "3DSTATE_MONOFILTER_SIZE" (length3d data)

/-- 3DSTATE_PUSH_CONSTANT_ALLOC_VS: 3D-pipeline-specific; no body in the source (43_3d_commands.md R387). -/
def execState3dPushConstantAllocVs (data : BitVec 16) (s : State) : Result :=
  refuseBody s.admit3d "3DSTATE_PUSH_CONSTANT_ALLOC_VS" (length3d data)

/-- 3DSTATE_PUSH_CONSTANT_ALLOC_HS: 3D-pipeline-specific; no body in the source (43_3d_commands.md R388). -/
def execState3dPushConstantAllocHs (data : BitVec 16) (s : State) : Result :=
  refuseBody s.admit3d "3DSTATE_PUSH_CONSTANT_ALLOC_HS" (length3d data)

/-- 3DSTATE_PUSH_CONSTANT_ALLOC_DS: 3D-pipeline-specific; no body in the source (43_3d_commands.md R389). -/
def execState3dPushConstantAllocDs (data : BitVec 16) (s : State) : Result :=
  refuseBody s.admit3d "3DSTATE_PUSH_CONSTANT_ALLOC_DS" (length3d data)

/-- 3DSTATE_PUSH_CONSTANT_ALLOC_GS: 3D-pipeline-specific; no body in the source (43_3d_commands.md R390). -/
def execState3dPushConstantAllocGs (data : BitVec 16) (s : State) : Result :=
  refuseBody s.admit3d "3DSTATE_PUSH_CONSTANT_ALLOC_GS" (length3d data)

/-- 3DSTATE_PUSH_CONSTANT_ALLOC_PS: 3D-pipeline-specific; no body in the source (43_3d_commands.md R391). -/
def execState3dPushConstantAllocPs (data : BitVec 16) (s : State) : Result :=
  refuseBody s.admit3d "3DSTATE_PUSH_CONSTANT_ALLOC_PS" (length3d data)

/-- 3DSTATE_SO_DECL_LIST: 3D-pipeline-specific; no body in the source (43_3d_commands.md R392). -/
def execState3dSoDeclList (data : BitVec 16) (s : State) : Result :=
  refuseBody s.admit3d "3DSTATE_SO_DECL_LIST" (length3d data)

/-- 3DSTATE_SO_BUFFER: 3D-pipeline-specific; no body in the source (43_3d_commands.md R393). -/
def execState3dSoBuffer (data : BitVec 16) (s : State) : Result :=
  refuseBody s.admit3d "3DSTATE_SO_BUFFER" (length3d data)

/-- 3DSTATE_SAMPLE_PATTERN: 3D-pipeline-specific; no body in the source (43_3d_commands.md R394). -/
def execState3dSamplePattern (data : BitVec 16) (s : State) : Result :=
  refuseBody s.admit3d "3DSTATE_SAMPLE_PATTERN" (length3d data)

/-- 3DSTATE_URB_CLEAR: 3D-pipeline-specific; no body in the source (43_3d_commands.md R395). -/
def execState3dUrbClear (data : BitVec 16) (s : State) : Result :=
  refuseBody s.admit3d "3DSTATE_URB_CLEAR" (length3d data)

/-- PIPE_CONTROL: common to both pipelines; no body in the source (43_3d_commands.md R420). -/
def execPipeControl (data : BitVec 16) (s : State) : Result :=
  refuseBody (admitRender s.turn) "PIPE_CONTROL" (length3d data)

/-- 3DPRIMITIVE: 3D-pipeline-specific; no body in the source (43_3d_commands.md R421). -/
def execPrimitive3d (data : BitVec 16) (s : State) : Result :=
  refuseBody s.admit3d "3DPRIMITIVE" (length3d data)

/-- The media commands of sub-type 2h, which no map names: media-pipeline-specific, no body in the source
(43_3d_commands.md R401). -/
def execMediaSubtype2hUnmapped (data : BitVec 27) (s : State) : Result :=
  refuseBody s.admitMedia "MEDIA_SUBTYPE_2H_UNMAPPED" (lengthMedia data)

end Sys2Proof.Machine
end

