-- ==== Sys2Proof/Machine/Dispatch.lean ====
section
/-! DEFINITION. One arm per command. -/

namespace Sys2Proof.Machine

/-- The meaning of each command. -/
def exec (i : Instr) (s : State) : Host.Outcome State Fault Refusal :=
  match i with
  | .pipelineSelect reserved select => Sys2Proof.Machine.execPipelineSelect reserved select s
  | .stateBaseAddress h g sf dy ind ins gb db ib nb => Sys2Proof.Machine.execStateBaseAddress h g sf dy ind ins gb db ib nb s
  | .stateSip h sip reserved => Sys2Proof.Machine.execStateSip h sip reserved s
  | .swtessBaseAddress h base mocs reserved => Sys2Proof.Machine.execSwtessBaseAddress h base mocs reserved s
  | .gpgpuCsrBaseAddress data => Sys2Proof.Machine.execGpgpuCsrBaseAddress data s
  | .statePrefetch h pointer reserved count => Sys2Proof.Machine.execStatePrefetch h pointer reserved count s
  | .miNoop data => Sys2Proof.Machine.execMiNoop data s
  | .miUserInterrupt data => Sys2Proof.Machine.execMiUserInterrupt data s
  | .miWaitForEvent data => Sys2Proof.Machine.execMiWaitForEvent data s
  | .miOpcode04hUnnamed data => Sys2Proof.Machine.execMiOpcode04hUnnamed data s
  | .miArbCheck data => Sys2Proof.Machine.execMiArbCheck data s
  | .miReportHead data => Sys2Proof.Machine.execMiReportHead data s
  | .miArbOnOff data => Sys2Proof.Machine.execMiArbOnOff data s
  | .miBatchBufferEnd data => Sys2Proof.Machine.execMiBatchBufferEnd data s
  | .miSuspendFlush data => Sys2Proof.Machine.execMiSuspendFlush data s
  | .miPredicate data => Sys2Proof.Machine.execMiPredicate data s
  | .miTopologyFilter data => Sys2Proof.Machine.execMiTopologyFilter data s
  | .miSetAppid data => Sys2Proof.Machine.execMiSetAppid data s
  | .miDisplayFlip data => Sys2Proof.Machine.execMiDisplayFlip data s
  | .miSemaphoreMbox data => Sys2Proof.Machine.execMiSemaphoreMbox data s
  | .miSetContext data => Sys2Proof.Machine.execMiSetContext data s
  | .miMath data => Sys2Proof.Machine.execMiMath data s
  | .miStoreDataImm data => Sys2Proof.Machine.execMiStoreDataImm data s
  | .miStoreDataIndex data => Sys2Proof.Machine.execMiStoreDataIndex data s
  | .miLoadRegisterImm data => Sys2Proof.Machine.execMiLoadRegisterImm data s
  | .miUpdateGtt data => Sys2Proof.Machine.execMiUpdateGtt data s
  | .miStoreRegisterMem data => Sys2Proof.Machine.execMiStoreRegisterMem data s
  | .miFlushDw data => Sys2Proof.Machine.execMiFlushDw data s
  | .miClflush data => Sys2Proof.Machine.execMiClflush data s
  | .miReportPerfCount data => Sys2Proof.Machine.execMiReportPerfCount data s
  | .miLoadRegisterMem data => Sys2Proof.Machine.execMiLoadRegisterMem data s
  | .miBatchBufferStart data => Sys2Proof.Machine.execMiBatchBufferStart data s
  | .miConditionalBatchBufferEnd data => Sys2Proof.Machine.execMiConditionalBatchBufferEnd data s
  | .xySetupBlt data => Sys2Proof.Machine.execXySetupBlt data s
  | .xySetupClipBlt data => Sys2Proof.Machine.execXySetupClipBlt data s
  | .xySetupMonoPatternSlBlt data => Sys2Proof.Machine.execXySetupMonoPatternSlBlt data s
  | .xyPixelBlt data => Sys2Proof.Machine.execXyPixelBlt data s
  | .xyScanlinesBlt data => Sys2Proof.Machine.execXyScanlinesBlt data s
  | .xyTextBlt data => Sys2Proof.Machine.execXyTextBlt data s
  | .xyTextImmediateBlt data => Sys2Proof.Machine.execXyTextImmediateBlt data s
  | .colorBlt data => Sys2Proof.Machine.execColorBlt data s
  | .srcCopyBlt data => Sys2Proof.Machine.execSrcCopyBlt data s
  | .xyColorBlt data => Sys2Proof.Machine.execXyColorBlt data s
  | .xyPatBlt data => Sys2Proof.Machine.execXyPatBlt data s
  | .xyMonoPatBlt data => Sys2Proof.Machine.execXyMonoPatBlt data s
  | .xySrcCopyBlt data => Sys2Proof.Machine.execXySrcCopyBlt data s
  | .xyMonoSrcCopyBlt data => Sys2Proof.Machine.execXyMonoSrcCopyBlt data s
  | .xyFullBlt data => Sys2Proof.Machine.execXyFullBlt data s
  | .xyFullMonoSrcBlt data => Sys2Proof.Machine.execXyFullMonoSrcBlt data s
  | .xyFullMonoPatternBlt data => Sys2Proof.Machine.execXyFullMonoPatternBlt data s
  | .xyFullMonoPatternMonoSrcBlt data => Sys2Proof.Machine.execXyFullMonoPatternMonoSrcBlt data s
  | .xyMonoPatFixedBlt data => Sys2Proof.Machine.execXyMonoPatFixedBlt data s
  | .xyMonoSrcCopyImmediateBlt data => Sys2Proof.Machine.execXyMonoSrcCopyImmediateBlt data s
  | .xyPatBltImmediate data => Sys2Proof.Machine.execXyPatBltImmediate data s
  | .xySrcCopyChromaBlt data => Sys2Proof.Machine.execXySrcCopyChromaBlt data s
  | .xyFullImmediatePatternBlt data => Sys2Proof.Machine.execXyFullImmediatePatternBlt data s
  | .xyFullMonoSrcImmediatePatternBlt data => Sys2Proof.Machine.execXyFullMonoSrcImmediatePatternBlt data s
  | .xyPatChromaBlt data => Sys2Proof.Machine.execXyPatChromaBlt data s
  | .xyPatChromaBltImmediate data => Sys2Proof.Machine.execXyPatChromaBltImmediate data s
  | .state3dClearParams data => Sys2Proof.Machine.execState3dClearParams data s
  | .state3dDepthBuffer data => Sys2Proof.Machine.execState3dDepthBuffer data s
  | .state3dStencilBuffer data => Sys2Proof.Machine.execState3dStencilBuffer data s
  | .state3dHierDepthBuffer data => Sys2Proof.Machine.execState3dHierDepthBuffer data s
  | .state3dVertexBuffers data => Sys2Proof.Machine.execState3dVertexBuffers data s
  | .state3dVertexElements data => Sys2Proof.Machine.execState3dVertexElements data s
  | .state3dIndexBuffer data => Sys2Proof.Machine.execState3dIndexBuffer data s
  | .state3dVfStatistics data => Sys2Proof.Machine.execState3dVfStatistics data s
  | .state3dViewportStatePointers data => Sys2Proof.Machine.execState3dViewportStatePointers data s
  | .state3dVs data => Sys2Proof.Machine.execState3dVs data s
  | .state3dGs data => Sys2Proof.Machine.execState3dGs data s
  | .state3dClip data => Sys2Proof.Machine.execState3dClip data s
  | .state3dSf data => Sys2Proof.Machine.execState3dSf data s
  | .state3dWm data => Sys2Proof.Machine.execState3dWm data s
  | .state3dConstantVs data => Sys2Proof.Machine.execState3dConstantVs data s
  | .state3dConstantGs data => Sys2Proof.Machine.execState3dConstantGs data s
  | .state3dConstantPs data => Sys2Proof.Machine.execState3dConstantPs data s
  | .state3dSampleMask data => Sys2Proof.Machine.execState3dSampleMask data s
  | .state3dConstantHs data => Sys2Proof.Machine.execState3dConstantHs data s
  | .state3dConstantDs data => Sys2Proof.Machine.execState3dConstantDs data s
  | .state3dHs data => Sys2Proof.Machine.execState3dHs data s
  | .state3dTe data => Sys2Proof.Machine.execState3dTe data s
  | .state3dDs data => Sys2Proof.Machine.execState3dDs data s
  | .state3dStreamout data => Sys2Proof.Machine.execState3dStreamout data s
  | .state3dSbe data => Sys2Proof.Machine.execState3dSbe data s
  | .state3dPs data => Sys2Proof.Machine.execState3dPs data s
  | .state3dViewportStatePointersSfClip data => Sys2Proof.Machine.execState3dViewportStatePointersSfClip data s
  | .state3dViewportStatePointersCc data => Sys2Proof.Machine.execState3dViewportStatePointersCc data s
  | .state3dBlendStatePointers data => Sys2Proof.Machine.execState3dBlendStatePointers data s
  | .state3dDepthStencilStatePointers data => Sys2Proof.Machine.execState3dDepthStencilStatePointers data s
  | .state3dBindingTablePointersVs data => Sys2Proof.Machine.execState3dBindingTablePointersVs data s
  | .state3dBindingTablePointersHs data => Sys2Proof.Machine.execState3dBindingTablePointersHs data s
  | .state3dBindingTablePointersDs data => Sys2Proof.Machine.execState3dBindingTablePointersDs data s
  | .state3dBindingTablePointersGs data => Sys2Proof.Machine.execState3dBindingTablePointersGs data s
  | .state3dBindingTablePointersPs data => Sys2Proof.Machine.execState3dBindingTablePointersPs data s
  | .state3dSamplerStatePointersVs data => Sys2Proof.Machine.execState3dSamplerStatePointersVs data s
  | .state3dSamplerStatePointersHs data => Sys2Proof.Machine.execState3dSamplerStatePointersHs data s
  | .state3dSamplerStatePointersDs data => Sys2Proof.Machine.execState3dSamplerStatePointersDs data s
  | .state3dSamplerStatePointersGs data => Sys2Proof.Machine.execState3dSamplerStatePointersGs data s
  | .state3dUrbVs data => Sys2Proof.Machine.execState3dUrbVs data s
  | .state3dUrbHs data => Sys2Proof.Machine.execState3dUrbHs data s
  | .state3dUrbDs data => Sys2Proof.Machine.execState3dUrbDs data s
  | .state3dUrbGs data => Sys2Proof.Machine.execState3dUrbGs data s
  | .state3dWmChromaKey data => Sys2Proof.Machine.execState3dWmChromaKey data s
  | .state3dPsBlend data => Sys2Proof.Machine.execState3dPsBlend data s
  | .state3dWmDepthStencil data => Sys2Proof.Machine.execState3dWmDepthStencil data s
  | .state3dPsExtra data => Sys2Proof.Machine.execState3dPsExtra data s
  | .state3dRaster data => Sys2Proof.Machine.execState3dRaster data s
  | .state3dSbeSwiz data => Sys2Proof.Machine.execState3dSbeSwiz data s
  | .state3dWmHzOp data => Sys2Proof.Machine.execState3dWmHzOp data s
  | .state3dInt data => Sys2Proof.Machine.execState3dInt data s
  | .state3dDrawingRectangle data => Sys2Proof.Machine.execState3dDrawingRectangle data s
  | .state3dSamplerPaletteLoad0 data => Sys2Proof.Machine.execState3dSamplerPaletteLoad0 data s
  | .state3dChromaKey data => Sys2Proof.Machine.execState3dChromaKey data s
  | .state3dPolyStippleOffset data => Sys2Proof.Machine.execState3dPolyStippleOffset data s
  | .state3dPolyStipplePattern data => Sys2Proof.Machine.execState3dPolyStipplePattern data s
  | .state3dLineStipple data => Sys2Proof.Machine.execState3dLineStipple data s
  | .state3dAaLineParams data => Sys2Proof.Machine.execState3dAaLineParams data s
  | .state3dGsSvbIndex data => Sys2Proof.Machine.execState3dGsSvbIndex data s
  | .state3dSamplerPaletteLoad1 data => Sys2Proof.Machine.execState3dSamplerPaletteLoad1 data s
  | .state3dMultisample data => Sys2Proof.Machine.execState3dMultisample data s
  | .state3dStencilBufferNp data => Sys2Proof.Machine.execState3dStencilBufferNp data s
  | .state3dHierDepthBufferNp data => Sys2Proof.Machine.execState3dHierDepthBufferNp data s
  | .state3dClearParamsNp data => Sys2Proof.Machine.execState3dClearParamsNp data s
  | .state3dMonofilterSize data => Sys2Proof.Machine.execState3dMonofilterSize data s
  | .state3dPushConstantAllocVs data => Sys2Proof.Machine.execState3dPushConstantAllocVs data s
  | .state3dPushConstantAllocHs data => Sys2Proof.Machine.execState3dPushConstantAllocHs data s
  | .state3dPushConstantAllocDs data => Sys2Proof.Machine.execState3dPushConstantAllocDs data s
  | .state3dPushConstantAllocGs data => Sys2Proof.Machine.execState3dPushConstantAllocGs data s
  | .state3dPushConstantAllocPs data => Sys2Proof.Machine.execState3dPushConstantAllocPs data s
  | .state3dSoDeclList data => Sys2Proof.Machine.execState3dSoDeclList data s
  | .state3dSoBuffer data => Sys2Proof.Machine.execState3dSoBuffer data s
  | .state3dSamplePattern data => Sys2Proof.Machine.execState3dSamplePattern data s
  | .state3dUrbClear data => Sys2Proof.Machine.execState3dUrbClear data s
  | .pipeControl data => Sys2Proof.Machine.execPipeControl data s
  | .primitive3d data => Sys2Proof.Machine.execPrimitive3d data s
  | .mfxPipeModeSelect data => Sys2Proof.Machine.execMfxPipeModeSelect data s
  | .mfxSurfaceState data => Sys2Proof.Machine.execMfxSurfaceState data s
  | .mfxPipeBufAddrState data => Sys2Proof.Machine.execMfxPipeBufAddrState data s
  | .mfxIndObjBaseAddrState data => Sys2Proof.Machine.execMfxIndObjBaseAddrState data s
  | .mfxBspBufBaseAddrState data => Sys2Proof.Machine.execMfxBspBufBaseAddrState data s
  | .mfx005Unnamed data => Sys2Proof.Machine.execMfx005Unnamed data s
  | .mfxStatePointer data => Sys2Proof.Machine.execMfxStatePointer data s
  | .mfdItObject data => Sys2Proof.Machine.execMfdItObject data s
  | .mfxAvcImgState data => Sys2Proof.Machine.execMfxAvcImgState data s
  | .mfxAvcQmState data => Sys2Proof.Machine.execMfxAvcQmState data s
  | .mfxAvcDirectmodeState data => Sys2Proof.Machine.execMfxAvcDirectmodeState data s
  | .mfxAvcSliceState data => Sys2Proof.Machine.execMfxAvcSliceState data s
  | .mfxAvcRefIdxState data => Sys2Proof.Machine.execMfxAvcRefIdxState data s
  | .mfxAvcWeightoffsetState data => Sys2Proof.Machine.execMfxAvcWeightoffsetState data s
  | .mfdAvcBsdObject data => Sys2Proof.Machine.execMfdAvcBsdObject data s
  | .mfcAvcFqmState data => Sys2Proof.Machine.execMfcAvcFqmState data s
  | .mfcAvcPakInsertObject data => Sys2Proof.Machine.execMfcAvcPakInsertObject data s
  | .mfcAvcPakObject data => Sys2Proof.Machine.execMfcAvcPakObject data s
  | .mfxVc1PicState data => Sys2Proof.Machine.execMfxVc1PicState data s
  | .mfxVc1PredPipeState data => Sys2Proof.Machine.execMfxVc1PredPipeState data s
  | .mfxVc1DirectmodeState data => Sys2Proof.Machine.execMfxVc1DirectmodeState data s
  | .mfdVc1BsdObject data => Sys2Proof.Machine.execMfdVc1BsdObject data s
  | .mfxMpeg2PicState data => Sys2Proof.Machine.execMfxMpeg2PicState data s
  | .mfxMpeg2QmState data => Sys2Proof.Machine.execMfxMpeg2QmState data s
  | .mfdMpeg2BsdObject data => Sys2Proof.Machine.execMfdMpeg2BsdObject data s
  | .mfxSingleDwUnnamed => Sys2Proof.Machine.execMfxSingleDwUnnamed s
  | .mediaSubtype2hUnmapped data => Sys2Proof.Machine.execMediaSubtype2hUnmapped data s

end Sys2Proof.Machine
end

