-- ==== Sys2Proof/Decode.lean ====
section
/-! DEFINITION. Decoding, total on any DWords or bytes, rejecting by name (30_encoding.md R140 to R149, R157,
R166), and the encoder written from the same tables. -/

namespace Sys2Proof

/-- Why no command is decoded. -/
inductive DecodeError where
  /-- Fewer DWords were given than the command's fields take. -/
  | truncated
  /-- `DW0[31:29]` is not a client of the parser (30_encoding.md R147, R148). -/
  | reservedClient
  /-- No row of a command map, or a row marked Reserved (30_encoding.md R157). -/
  | reservedOpcode
  /-- `DW0[31:29] = 7` on the render parser (30_encoding.md R144, 60_exceptions.md R795). -/
  | fulsimEncoding
deriving DecidableEq, Repr

/-- The outcome of decoding. -/
inductive Decoded where
  | ok (i : Instr)
  | bad (e : DecodeError)
deriving DecidableEq, Repr

/-- `DW0[15:0]` of a common command with a DWord Length (30_encoding.md R146). -/
def lenHeader (w : Word) : LenHeader := ⟨field w 8 8, field w 0 8⟩

/-- DW1 of STATE_BASE_ADDRESS (40_common_commands.md R201). -/
def sbaGeneral (w : Word) : SbaGeneral :=
  ⟨field w 12 20, field w 8 4, field w 4 4, field w 3 1, field w 1 2, field w 0 1⟩

/-- DW2 to DW5 of STATE_BASE_ADDRESS (40_common_commands.md R201). -/
def sbaBase (w : Word) : SbaBase := ⟨field w 12 20, field w 8 4, field w 1 7, field w 0 1⟩

/-- DW6 to DW9 of STATE_BASE_ADDRESS (40_common_commands.md R201). -/
def sbaBound (w : Word) : SbaBound := ⟨field w 12 20, field w 1 11, field w 0 1⟩

/-- Client 0: the opcode is `DW0[28:23]` (41_mi_commands.md R257, R258). -/
def decodeMi (w : Word) : Decoded :=
  match (field w 23 6).toNat with
  | 0x00 => .ok (.miNoop (field w 0 23))
  | 0x02 => .ok (.miUserInterrupt (field w 0 23))
  | 0x03 => .ok (.miWaitForEvent (field w 0 23))
  | 0x04 => .ok (.miOpcode04hUnnamed (field w 0 23))
  | 0x05 => .ok (.miArbCheck (field w 0 23))
  | 0x07 => .ok (.miReportHead (field w 0 23))
  | 0x08 => .ok (.miArbOnOff (field w 0 23))
  | 0x0A => .ok (.miBatchBufferEnd (field w 0 23))
  | 0x0B => .ok (.miSuspendFlush (field w 0 23))
  | 0x0C => .ok (.miPredicate (field w 0 23))
  | 0x0D => .ok (.miTopologyFilter (field w 0 23))
  | 0x0E => .ok (.miSetAppid (field w 0 23))
  | 0x14 => .ok (.miDisplayFlip (field w 0 23))
  | 0x16 => .ok (.miSemaphoreMbox (field w 0 23))
  | 0x18 => .ok (.miSetContext (field w 0 23))
  | 0x1A => .ok (.miMath (field w 0 23))
  | 0x20 => .ok (.miStoreDataImm (field w 0 23))
  | 0x21 => .ok (.miStoreDataIndex (field w 0 23))
  | 0x22 => .ok (.miLoadRegisterImm (field w 0 23))
  | 0x23 => .ok (.miUpdateGtt (field w 0 23))
  | 0x24 => .ok (.miStoreRegisterMem (field w 0 23))
  | 0x26 => .ok (.miFlushDw (field w 0 23))
  | 0x27 => .ok (.miClflush (field w 0 23))
  | 0x28 => .ok (.miReportPerfCount (field w 0 23))
  | 0x29 => .ok (.miLoadRegisterMem (field w 0 23))
  | 0x31 => .ok (.miBatchBufferStart (field w 0 23))
  | 0x36 => .ok (.miConditionalBatchBufferEnd (field w 0 23))
  | _ => .bad .reservedOpcode

/-- Client 2: the opcode is `DW0[28:22]` (42_2d_commands.md R280, R307). -/
def decode2d (w : Word) : Decoded :=
  match (field w 22 7).toNat with
  | 0x01 => .ok (.xySetupBlt (field w 0 22))
  | 0x03 => .ok (.xySetupClipBlt (field w 0 22))
  | 0x11 => .ok (.xySetupMonoPatternSlBlt (field w 0 22))
  | 0x24 => .ok (.xyPixelBlt (field w 0 22))
  | 0x25 => .ok (.xyScanlinesBlt (field w 0 22))
  | 0x26 => .ok (.xyTextBlt (field w 0 22))
  | 0x31 => .ok (.xyTextImmediateBlt (field w 0 22))
  | 0x40 => .ok (.colorBlt (field w 0 22))
  | 0x43 => .ok (.srcCopyBlt (field w 0 22))
  | 0x50 => .ok (.xyColorBlt (field w 0 22))
  | 0x51 => .ok (.xyPatBlt (field w 0 22))
  | 0x52 => .ok (.xyMonoPatBlt (field w 0 22))
  | 0x53 => .ok (.xySrcCopyBlt (field w 0 22))
  | 0x54 => .ok (.xyMonoSrcCopyBlt (field w 0 22))
  | 0x55 => .ok (.xyFullBlt (field w 0 22))
  | 0x56 => .ok (.xyFullMonoSrcBlt (field w 0 22))
  | 0x57 => .ok (.xyFullMonoPatternBlt (field w 0 22))
  | 0x58 => .ok (.xyFullMonoPatternMonoSrcBlt (field w 0 22))
  | 0x59 => .ok (.xyMonoPatFixedBlt (field w 0 22))
  | 0x71 => .ok (.xyMonoSrcCopyImmediateBlt (field w 0 22))
  | 0x72 => .ok (.xyPatBltImmediate (field w 0 22))
  | 0x73 => .ok (.xySrcCopyChromaBlt (field w 0 22))
  | 0x74 => .ok (.xyFullImmediatePatternBlt (field w 0 22))
  | 0x75 => .ok (.xyFullMonoSrcImmediatePatternBlt (field w 0 22))
  | 0x76 => .ok (.xyPatChromaBlt (field w 0 22))
  | 0x77 => .ok (.xyPatChromaBltImmediate (field w 0 22))
  | _ => .bad .reservedOpcode

/-- Client 3, sub-type 0: opcode `DW0[26:24]` and sub-opcode `DW0[23:16]` as one number
(40_common_commands.md R229). -/
def decodeCommon (w : Word) (body : List Word) : Decoded :=
  match (field w 16 11).toNat with
  | 0x003 =>
      match body with
      | d :: _ => .ok (.statePrefetch (lenHeader w) (field d 6 26) (field d 3 3) (field d 0 3))
      | [] => .bad .truncated
  | 0x101 =>
      match body with
      | d1 :: d2 :: d3 :: d4 :: d5 :: d6 :: d7 :: d8 :: d9 :: _ =>
          .ok (.stateBaseAddress (lenHeader w) (sbaGeneral d1) (sbaBase d2) (sbaBase d3) (sbaBase d4)
            (sbaBase d5) (sbaBound d6) (sbaBound d7) (sbaBound d8) (sbaBound d9))
      | _ => .bad .truncated
  | 0x102 =>
      match body with
      | d :: _ => .ok (.stateSip (lenHeader w) (field d 4 28) (field d 0 4))
      | [] => .bad .truncated
  | 0x103 =>
      match body with
      | d :: _ => .ok (.swtessBaseAddress (lenHeader w) (field d 12 20) (field d 8 4) (field d 0 8))
      | [] => .bad .truncated
  | 0x104 => .ok (.gpgpuCsrBaseAddress (field w 0 16))
  | _ => .bad .reservedOpcode

/-- Client 3, sub-type 1 on the render parser: only PIPELINE_SELECT (30_encoding.md R147,
40_common_commands.md R229). -/
def decodeSingle (w : Word) : Decoded :=
  match (field w 16 11).toNat with
  | 0x104 => .ok (.pipelineSelect (field w 2 14) (field w 0 2))
  | _ => .bad .reservedOpcode

/-- Client 3, sub-type 2 on the render parser: opcodes 0 to 2 have no map, 3 to 7 are reserved
(30_encoding.md R143, R147, 43_3d_commands.md R401). -/
def decodeMedia (w : Word) : Decoded :=
  if (field w 24 3).toNat ≤ 2 then .ok (.mediaSubtype2hUnmapped (field w 0 27)) else .bad .reservedOpcode

/-- Client 3, sub-type 3: opcode and sub-opcode as one number (43_3d_commands.md R320, R400). -/
def decode3d (w : Word) : Decoded :=
  match (field w 16 11).toNat with
  | 0x004 => .ok (.state3dClearParams (field w 0 16))
  | 0x005 => .ok (.state3dDepthBuffer (field w 0 16))
  | 0x006 => .ok (.state3dStencilBuffer (field w 0 16))
  | 0x007 => .ok (.state3dHierDepthBuffer (field w 0 16))
  | 0x008 => .ok (.state3dVertexBuffers (field w 0 16))
  | 0x009 => .ok (.state3dVertexElements (field w 0 16))
  | 0x00A => .ok (.state3dIndexBuffer (field w 0 16))
  | 0x00B => .ok (.state3dVfStatistics (field w 0 16))
  | 0x00D => .ok (.state3dViewportStatePointers (field w 0 16))
  | 0x010 => .ok (.state3dVs (field w 0 16))
  | 0x011 => .ok (.state3dGs (field w 0 16))
  | 0x012 => .ok (.state3dClip (field w 0 16))
  | 0x013 => .ok (.state3dSf (field w 0 16))
  | 0x014 => .ok (.state3dWm (field w 0 16))
  | 0x015 => .ok (.state3dConstantVs (field w 0 16))
  | 0x016 => .ok (.state3dConstantGs (field w 0 16))
  | 0x017 => .ok (.state3dConstantPs (field w 0 16))
  | 0x018 => .ok (.state3dSampleMask (field w 0 16))
  | 0x019 => .ok (.state3dConstantHs (field w 0 16))
  | 0x01A => .ok (.state3dConstantDs (field w 0 16))
  | 0x01B => .ok (.state3dHs (field w 0 16))
  | 0x01C => .ok (.state3dTe (field w 0 16))
  | 0x01D => .ok (.state3dDs (field w 0 16))
  | 0x01E => .ok (.state3dStreamout (field w 0 16))
  | 0x01F => .ok (.state3dSbe (field w 0 16))
  | 0x020 => .ok (.state3dPs (field w 0 16))
  | 0x022 => .ok (.state3dViewportStatePointersSfClip (field w 0 16))
  | 0x023 => .ok (.state3dViewportStatePointersCc (field w 0 16))
  | 0x024 => .ok (.state3dBlendStatePointers (field w 0 16))
  | 0x025 => .ok (.state3dDepthStencilStatePointers (field w 0 16))
  | 0x026 => .ok (.state3dBindingTablePointersVs (field w 0 16))
  | 0x027 => .ok (.state3dBindingTablePointersHs (field w 0 16))
  | 0x028 => .ok (.state3dBindingTablePointersDs (field w 0 16))
  | 0x029 => .ok (.state3dBindingTablePointersGs (field w 0 16))
  | 0x02A => .ok (.state3dBindingTablePointersPs (field w 0 16))
  | 0x02B => .ok (.state3dSamplerStatePointersVs (field w 0 16))
  | 0x02C => .ok (.state3dSamplerStatePointersHs (field w 0 16))
  | 0x02D => .ok (.state3dSamplerStatePointersDs (field w 0 16))
  | 0x02E => .ok (.state3dSamplerStatePointersGs (field w 0 16))
  | 0x030 => .ok (.state3dUrbVs (field w 0 16))
  | 0x031 => .ok (.state3dUrbHs (field w 0 16))
  | 0x032 => .ok (.state3dUrbDs (field w 0 16))
  | 0x033 => .ok (.state3dUrbGs (field w 0 16))
  | 0x04C => .ok (.state3dWmChromaKey (field w 0 16))
  | 0x04D => .ok (.state3dPsBlend (field w 0 16))
  | 0x04E => .ok (.state3dWmDepthStencil (field w 0 16))
  | 0x04F => .ok (.state3dPsExtra (field w 0 16))
  | 0x050 => .ok (.state3dRaster (field w 0 16))
  | 0x051 => .ok (.state3dSbeSwiz (field w 0 16))
  | 0x052 => .ok (.state3dWmHzOp (field w 0 16))
  | 0x053 => .ok (.state3dInt (field w 0 16))
  | 0x100 => .ok (.state3dDrawingRectangle (field w 0 16))
  | 0x102 => .ok (.state3dSamplerPaletteLoad0 (field w 0 16))
  | 0x104 => .ok (.state3dChromaKey (field w 0 16))
  | 0x106 => .ok (.state3dPolyStippleOffset (field w 0 16))
  | 0x107 => .ok (.state3dPolyStipplePattern (field w 0 16))
  | 0x108 => .ok (.state3dLineStipple (field w 0 16))
  | 0x10A => .ok (.state3dAaLineParams (field w 0 16))
  | 0x10B => .ok (.state3dGsSvbIndex (field w 0 16))
  | 0x10C => .ok (.state3dSamplerPaletteLoad1 (field w 0 16))
  | 0x10D => .ok (.state3dMultisample (field w 0 16))
  | 0x10E => .ok (.state3dStencilBufferNp (field w 0 16))
  | 0x10F => .ok (.state3dHierDepthBufferNp (field w 0 16))
  | 0x110 => .ok (.state3dClearParamsNp (field w 0 16))
  | 0x111 => .ok (.state3dMonofilterSize (field w 0 16))
  | 0x112 => .ok (.state3dPushConstantAllocVs (field w 0 16))
  | 0x113 => .ok (.state3dPushConstantAllocHs (field w 0 16))
  | 0x114 => .ok (.state3dPushConstantAllocDs (field w 0 16))
  | 0x115 => .ok (.state3dPushConstantAllocGs (field w 0 16))
  | 0x116 => .ok (.state3dPushConstantAllocPs (field w 0 16))
  | 0x117 => .ok (.state3dSoDeclList (field w 0 16))
  | 0x118 => .ok (.state3dSoBuffer (field w 0 16))
  | 0x11C => .ok (.state3dSamplePattern (field w 0 16))
  | 0x11D => .ok (.state3dUrbClear (field w 0 16))
  | 0x200 => .ok (.pipeControl (field w 0 16))
  | 0x300 => .ok (.primitive3d (field w 0 16))
  | _ => .bad .reservedOpcode

/-- Client 3, sub-type 2 on the video parser: opcode, SubopA and SubopB as one number
(30_encoding.md R148, 44_mfx_commands.md R476). -/
def decodeMfx (w : Word) : Decoded :=
  match (field w 16 11).toNat with
  | 0x000 => .ok (.mfxPipeModeSelect (field w 0 16))
  | 0x001 => .ok (.mfxSurfaceState (field w 0 16))
  | 0x002 => .ok (.mfxPipeBufAddrState (field w 0 16))
  | 0x003 => .ok (.mfxIndObjBaseAddrState (field w 0 16))
  | 0x004 => .ok (.mfxBspBufBaseAddrState (field w 0 16))
  | 0x005 => .ok (.mfx005Unnamed (field w 0 16))
  | 0x006 => .ok (.mfxStatePointer (field w 0 16))
  | 0x029 => .ok (.mfdItObject (field w 0 16))
  | 0x100 => .ok (.mfxAvcImgState (field w 0 16))
  | 0x101 => .ok (.mfxAvcQmState (field w 0 16))
  | 0x102 => .ok (.mfxAvcDirectmodeState (field w 0 16))
  | 0x103 => .ok (.mfxAvcSliceState (field w 0 16))
  | 0x104 => .ok (.mfxAvcRefIdxState (field w 0 16))
  | 0x105 => .ok (.mfxAvcWeightoffsetState (field w 0 16))
  | 0x128 => .ok (.mfdAvcBsdObject (field w 0 16))
  | 0x142 => .ok (.mfcAvcFqmState (field w 0 16))
  | 0x148 => .ok (.mfcAvcPakInsertObject (field w 0 16))
  | 0x149 => .ok (.mfcAvcPakObject (field w 0 16))
  | 0x200 => .ok (.mfxVc1PicState (field w 0 16))
  | 0x201 => .ok (.mfxVc1PredPipeState (field w 0 16))
  | 0x202 => .ok (.mfxVc1DirectmodeState (field w 0 16))
  | 0x228 => .ok (.mfdVc1BsdObject (field w 0 16))
  | 0x300 => .ok (.mfxMpeg2PicState (field w 0 16))
  | 0x301 => .ok (.mfxMpeg2QmState (field w 0 16))
  | 0x328 => .ok (.mfdMpeg2BsdObject (field w 0 16))
  | _ => .bad .reservedOpcode

/-- Client 3, sub-type 1 on the video parser: "MFX Single DW", every other bit zero
(30_encoding.md R148, 44_mfx_commands.md R477). -/
def decodeMfxSingle (w : Word) : Decoded :=
  if field w 0 27 = 0 then .ok .mfxSingleDwUnnamed else .bad .reservedOpcode

/-- The decode procedure of the Render Command Parser (30_encoding.md R147). -/
def decodeRender (w : Word) (body : List Word) : Decoded :=
  match (field w 29 3).toNat with
  | 0 => decodeMi w
  | 2 => decode2d w
  | 3 =>
      match (field w 27 2).toNat with
      | 0 => decodeCommon w body
      | 1 => decodeSingle w
      | 2 => decodeMedia w
      | _ => decode3d w
  | 7 => .bad .fulsimEncoding
  | _ => .bad .reservedClient

/-- The decode procedure of the Video Codec Command Parser (30_encoding.md R148). -/
def decodeVideo (w : Word) : Decoded :=
  match (field w 29 3).toNat with
  | 0 => decodeMi w
  | 3 =>
      match (field w 27 2).toNat with
      | 1 => decodeMfxSingle w
      | 2 => decodeMfx w
      | _ => .bad .reservedOpcode
  | _ => .bad .reservedClient

/-- The decode procedure of the blitter's parser (30_encoding.md R149; log entry 28). -/
def decodeBlitter (w : Word) : Decoded :=
  match (field w 29 3).toNat with
  | 0 => decodeMi w
  | 2 => decode2d w
  | _ => .bad .reservedClient

/-- Decoding by the parser that fetched the command (30_encoding.md R147 to R149). -/
def decode (e : Engine) : List Word → Decoded
  | [] => .bad .truncated
  | w :: body =>
      match e with
      | .render => decodeRender w body
      | .video => decodeVideo w
      | .blitter => decodeBlitter w

/-- Decoding of a byte string, little-endian DWords (20_memory.md R100). -/
def decodeBytes (e : Engine) (bs : List Byte) : Decoded := decode e (wordsOfBytes bs)

/-- DWords after the header that hold fields of the command (40_common_commands.md). -/
def Instr.bodyWords : Instr → Nat
  | .stateBaseAddress .. => 9
  | .stateSip .. | .swtessBaseAddress .. | .statePrefetch .. => 1
  | .pipelineSelect _ _
  | .gpgpuCsrBaseAddress _
  | .miNoop _
  | .miUserInterrupt _
  | .miWaitForEvent _
  | .miOpcode04hUnnamed _
  | .miArbCheck _
  | .miReportHead _
  | .miArbOnOff _
  | .miBatchBufferEnd _
  | .miSuspendFlush _
  | .miPredicate _
  | .miTopologyFilter _
  | .miSetAppid _
  | .miDisplayFlip _
  | .miSemaphoreMbox _
  | .miSetContext _
  | .miMath _
  | .miStoreDataImm _
  | .miStoreDataIndex _
  | .miLoadRegisterImm _
  | .miUpdateGtt _
  | .miStoreRegisterMem _
  | .miFlushDw _
  | .miClflush _
  | .miReportPerfCount _
  | .miLoadRegisterMem _
  | .miBatchBufferStart _
  | .miConditionalBatchBufferEnd _
  | .xySetupBlt _
  | .xySetupClipBlt _
  | .xySetupMonoPatternSlBlt _
  | .xyPixelBlt _
  | .xyScanlinesBlt _
  | .xyTextBlt _
  | .xyTextImmediateBlt _
  | .colorBlt _
  | .srcCopyBlt _
  | .xyColorBlt _
  | .xyPatBlt _
  | .xyMonoPatBlt _
  | .xySrcCopyBlt _
  | .xyMonoSrcCopyBlt _
  | .xyFullBlt _
  | .xyFullMonoSrcBlt _
  | .xyFullMonoPatternBlt _
  | .xyFullMonoPatternMonoSrcBlt _
  | .xyMonoPatFixedBlt _
  | .xyMonoSrcCopyImmediateBlt _
  | .xyPatBltImmediate _
  | .xySrcCopyChromaBlt _
  | .xyFullImmediatePatternBlt _
  | .xyFullMonoSrcImmediatePatternBlt _
  | .xyPatChromaBlt _
  | .xyPatChromaBltImmediate _
  | .state3dClearParams _
  | .state3dDepthBuffer _
  | .state3dStencilBuffer _
  | .state3dHierDepthBuffer _
  | .state3dVertexBuffers _
  | .state3dVertexElements _
  | .state3dIndexBuffer _
  | .state3dVfStatistics _
  | .state3dViewportStatePointers _
  | .state3dVs _
  | .state3dGs _
  | .state3dClip _
  | .state3dSf _
  | .state3dWm _
  | .state3dConstantVs _
  | .state3dConstantGs _
  | .state3dConstantPs _
  | .state3dSampleMask _
  | .state3dConstantHs _
  | .state3dConstantDs _
  | .state3dHs _
  | .state3dTe _
  | .state3dDs _
  | .state3dStreamout _
  | .state3dSbe _
  | .state3dPs _
  | .state3dViewportStatePointersSfClip _
  | .state3dViewportStatePointersCc _
  | .state3dBlendStatePointers _
  | .state3dDepthStencilStatePointers _
  | .state3dBindingTablePointersVs _
  | .state3dBindingTablePointersHs _
  | .state3dBindingTablePointersDs _
  | .state3dBindingTablePointersGs _
  | .state3dBindingTablePointersPs _
  | .state3dSamplerStatePointersVs _
  | .state3dSamplerStatePointersHs _
  | .state3dSamplerStatePointersDs _
  | .state3dSamplerStatePointersGs _
  | .state3dUrbVs _
  | .state3dUrbHs _
  | .state3dUrbDs _
  | .state3dUrbGs _
  | .state3dWmChromaKey _
  | .state3dPsBlend _
  | .state3dWmDepthStencil _
  | .state3dPsExtra _
  | .state3dRaster _
  | .state3dSbeSwiz _
  | .state3dWmHzOp _
  | .state3dInt _
  | .state3dDrawingRectangle _
  | .state3dSamplerPaletteLoad0 _
  | .state3dChromaKey _
  | .state3dPolyStippleOffset _
  | .state3dPolyStipplePattern _
  | .state3dLineStipple _
  | .state3dAaLineParams _
  | .state3dGsSvbIndex _
  | .state3dSamplerPaletteLoad1 _
  | .state3dMultisample _
  | .state3dStencilBufferNp _
  | .state3dHierDepthBufferNp _
  | .state3dClearParamsNp _
  | .state3dMonofilterSize _
  | .state3dPushConstantAllocVs _
  | .state3dPushConstantAllocHs _
  | .state3dPushConstantAllocDs _
  | .state3dPushConstantAllocGs _
  | .state3dPushConstantAllocPs _
  | .state3dSoDeclList _
  | .state3dSoBuffer _
  | .state3dSamplePattern _
  | .state3dUrbClear _
  | .pipeControl _
  | .primitive3d _
  | .mfxPipeModeSelect _
  | .mfxSurfaceState _
  | .mfxPipeBufAddrState _
  | .mfxIndObjBaseAddrState _
  | .mfxBspBufBaseAddrState _
  | .mfx005Unnamed _
  | .mfxStatePointer _
  | .mfdItObject _
  | .mfxAvcImgState _
  | .mfxAvcQmState _
  | .mfxAvcDirectmodeState _
  | .mfxAvcSliceState _
  | .mfxAvcRefIdxState _
  | .mfxAvcWeightoffsetState _
  | .mfdAvcBsdObject _
  | .mfcAvcFqmState _
  | .mfcAvcPakInsertObject _
  | .mfcAvcPakObject _
  | .mfxVc1PicState _
  | .mfxVc1PredPipeState _
  | .mfxVc1DirectmodeState _
  | .mfdVc1BsdObject _
  | .mfxMpeg2PicState _
  | .mfxMpeg2QmState _
  | .mfdMpeg2BsdObject _
  | .mfxSingleDwUnnamed
  | .mediaSubtype2hUnmapped _
    => 0

/-- The client, opcode and sub-opcode bits of a 16-bit opcode above `DW0[15:0]`. -/
def encodeHeader16 (opcode : BitVec 16) (data : BitVec 16) : Word := (opcode ++ data : BitVec (16 + 16))

/-- The client and opcode bits of an MI command above `DW0[22:0]`. -/
def encodeHeaderMi (opcode : BitVec 9) (data : BitVec 23) : Word := (opcode ++ data : BitVec (9 + 23))

/-- The client and opcode bits of a 2D command above `DW0[21:0]`. -/
def encodeHeader2d (opcode : BitVec 10) (data : BitVec 22) : Word := (opcode ++ data : BitVec (10 + 22))

/-- `DW0` of a common command with a DWord Length. -/
def encodeLen (opcode : BitVec 16) (h : LenHeader) : Word :=
  encodeHeader16 opcode (h.reserved ++ h.dwordLength : BitVec (8 + 8))

/-- DW1 of STATE_BASE_ADDRESS. -/
def encodeSbaGeneral (d : SbaGeneral) : Word :=
  (d.base ++ d.mocs ++ d.dataPortMocs ++ d.forceWriteThru ++ d.reserved ++ d.modifyEnable :
    BitVec (20 + 4 + 4 + 1 + 2 + 1))

/-- DW2 to DW5 of STATE_BASE_ADDRESS. -/
def encodeSbaBase (d : SbaBase) : Word :=
  (d.base ++ d.mocs ++ d.reserved ++ d.modifyEnable : BitVec (20 + 4 + 7 + 1))

/-- DW6 to DW9 of STATE_BASE_ADDRESS. -/
def encodeSbaBound (d : SbaBound) : Word := (d.bound ++ d.reserved ++ d.modifyEnable : BitVec (20 + 11 + 1))

/-- The DWords of a command, DWord 0 first. -/
def encode : Instr → List Word
  | .pipelineSelect reserved select =>
      [encodeHeader16 0x6904#16 (reserved ++ select : BitVec (14 + 2))]
  | .stateBaseAddress h g sf dy ind ins gb db ib nb =>
      [encodeLen 0x6101#16 h, encodeSbaGeneral g, encodeSbaBase sf, encodeSbaBase dy, encodeSbaBase ind,
        encodeSbaBase ins, encodeSbaBound gb, encodeSbaBound db, encodeSbaBound ib, encodeSbaBound nb]
  | .stateSip h sip reserved => [encodeLen 0x6102#16 h, (sip ++ reserved : BitVec (28 + 4))]
  | .swtessBaseAddress h base mocs reserved =>
      [encodeLen 0x6103#16 h, (base ++ mocs ++ reserved : BitVec (20 + 4 + 8))]
  | .statePrefetch h pointer reserved count =>
      [encodeLen 0x6003#16 h, (pointer ++ reserved ++ count : BitVec (26 + 3 + 3))]
  | .gpgpuCsrBaseAddress data => [encodeHeader16 0x6104#16 data]
  | .miNoop data => [encodeHeaderMi 0x000#9 data]
  | .miUserInterrupt data => [encodeHeaderMi 0x002#9 data]
  | .miWaitForEvent data => [encodeHeaderMi 0x003#9 data]
  | .miOpcode04hUnnamed data => [encodeHeaderMi 0x004#9 data]
  | .miArbCheck data => [encodeHeaderMi 0x005#9 data]
  | .miReportHead data => [encodeHeaderMi 0x007#9 data]
  | .miArbOnOff data => [encodeHeaderMi 0x008#9 data]
  | .miBatchBufferEnd data => [encodeHeaderMi 0x00A#9 data]
  | .miSuspendFlush data => [encodeHeaderMi 0x00B#9 data]
  | .miPredicate data => [encodeHeaderMi 0x00C#9 data]
  | .miTopologyFilter data => [encodeHeaderMi 0x00D#9 data]
  | .miSetAppid data => [encodeHeaderMi 0x00E#9 data]
  | .miDisplayFlip data => [encodeHeaderMi 0x014#9 data]
  | .miSemaphoreMbox data => [encodeHeaderMi 0x016#9 data]
  | .miSetContext data => [encodeHeaderMi 0x018#9 data]
  | .miMath data => [encodeHeaderMi 0x01A#9 data]
  | .miStoreDataImm data => [encodeHeaderMi 0x020#9 data]
  | .miStoreDataIndex data => [encodeHeaderMi 0x021#9 data]
  | .miLoadRegisterImm data => [encodeHeaderMi 0x022#9 data]
  | .miUpdateGtt data => [encodeHeaderMi 0x023#9 data]
  | .miStoreRegisterMem data => [encodeHeaderMi 0x024#9 data]
  | .miFlushDw data => [encodeHeaderMi 0x026#9 data]
  | .miClflush data => [encodeHeaderMi 0x027#9 data]
  | .miReportPerfCount data => [encodeHeaderMi 0x028#9 data]
  | .miLoadRegisterMem data => [encodeHeaderMi 0x029#9 data]
  | .miBatchBufferStart data => [encodeHeaderMi 0x031#9 data]
  | .miConditionalBatchBufferEnd data => [encodeHeaderMi 0x036#9 data]
  | .xySetupBlt data => [encodeHeader2d 0x101#10 data]
  | .xySetupClipBlt data => [encodeHeader2d 0x103#10 data]
  | .xySetupMonoPatternSlBlt data => [encodeHeader2d 0x111#10 data]
  | .xyPixelBlt data => [encodeHeader2d 0x124#10 data]
  | .xyScanlinesBlt data => [encodeHeader2d 0x125#10 data]
  | .xyTextBlt data => [encodeHeader2d 0x126#10 data]
  | .xyTextImmediateBlt data => [encodeHeader2d 0x131#10 data]
  | .colorBlt data => [encodeHeader2d 0x140#10 data]
  | .srcCopyBlt data => [encodeHeader2d 0x143#10 data]
  | .xyColorBlt data => [encodeHeader2d 0x150#10 data]
  | .xyPatBlt data => [encodeHeader2d 0x151#10 data]
  | .xyMonoPatBlt data => [encodeHeader2d 0x152#10 data]
  | .xySrcCopyBlt data => [encodeHeader2d 0x153#10 data]
  | .xyMonoSrcCopyBlt data => [encodeHeader2d 0x154#10 data]
  | .xyFullBlt data => [encodeHeader2d 0x155#10 data]
  | .xyFullMonoSrcBlt data => [encodeHeader2d 0x156#10 data]
  | .xyFullMonoPatternBlt data => [encodeHeader2d 0x157#10 data]
  | .xyFullMonoPatternMonoSrcBlt data => [encodeHeader2d 0x158#10 data]
  | .xyMonoPatFixedBlt data => [encodeHeader2d 0x159#10 data]
  | .xyMonoSrcCopyImmediateBlt data => [encodeHeader2d 0x171#10 data]
  | .xyPatBltImmediate data => [encodeHeader2d 0x172#10 data]
  | .xySrcCopyChromaBlt data => [encodeHeader2d 0x173#10 data]
  | .xyFullImmediatePatternBlt data => [encodeHeader2d 0x174#10 data]
  | .xyFullMonoSrcImmediatePatternBlt data => [encodeHeader2d 0x175#10 data]
  | .xyPatChromaBlt data => [encodeHeader2d 0x176#10 data]
  | .xyPatChromaBltImmediate data => [encodeHeader2d 0x177#10 data]
  | .state3dClearParams data => [encodeHeader16 0x7804#16 data]
  | .state3dDepthBuffer data => [encodeHeader16 0x7805#16 data]
  | .state3dStencilBuffer data => [encodeHeader16 0x7806#16 data]
  | .state3dHierDepthBuffer data => [encodeHeader16 0x7807#16 data]
  | .state3dVertexBuffers data => [encodeHeader16 0x7808#16 data]
  | .state3dVertexElements data => [encodeHeader16 0x7809#16 data]
  | .state3dIndexBuffer data => [encodeHeader16 0x780A#16 data]
  | .state3dVfStatistics data => [encodeHeader16 0x780B#16 data]
  | .state3dViewportStatePointers data => [encodeHeader16 0x780D#16 data]
  | .state3dVs data => [encodeHeader16 0x7810#16 data]
  | .state3dGs data => [encodeHeader16 0x7811#16 data]
  | .state3dClip data => [encodeHeader16 0x7812#16 data]
  | .state3dSf data => [encodeHeader16 0x7813#16 data]
  | .state3dWm data => [encodeHeader16 0x7814#16 data]
  | .state3dConstantVs data => [encodeHeader16 0x7815#16 data]
  | .state3dConstantGs data => [encodeHeader16 0x7816#16 data]
  | .state3dConstantPs data => [encodeHeader16 0x7817#16 data]
  | .state3dSampleMask data => [encodeHeader16 0x7818#16 data]
  | .state3dConstantHs data => [encodeHeader16 0x7819#16 data]
  | .state3dConstantDs data => [encodeHeader16 0x781A#16 data]
  | .state3dHs data => [encodeHeader16 0x781B#16 data]
  | .state3dTe data => [encodeHeader16 0x781C#16 data]
  | .state3dDs data => [encodeHeader16 0x781D#16 data]
  | .state3dStreamout data => [encodeHeader16 0x781E#16 data]
  | .state3dSbe data => [encodeHeader16 0x781F#16 data]
  | .state3dPs data => [encodeHeader16 0x7820#16 data]
  | .state3dViewportStatePointersSfClip data => [encodeHeader16 0x7822#16 data]
  | .state3dViewportStatePointersCc data => [encodeHeader16 0x7823#16 data]
  | .state3dBlendStatePointers data => [encodeHeader16 0x7824#16 data]
  | .state3dDepthStencilStatePointers data => [encodeHeader16 0x7825#16 data]
  | .state3dBindingTablePointersVs data => [encodeHeader16 0x7826#16 data]
  | .state3dBindingTablePointersHs data => [encodeHeader16 0x7827#16 data]
  | .state3dBindingTablePointersDs data => [encodeHeader16 0x7828#16 data]
  | .state3dBindingTablePointersGs data => [encodeHeader16 0x7829#16 data]
  | .state3dBindingTablePointersPs data => [encodeHeader16 0x782A#16 data]
  | .state3dSamplerStatePointersVs data => [encodeHeader16 0x782B#16 data]
  | .state3dSamplerStatePointersHs data => [encodeHeader16 0x782C#16 data]
  | .state3dSamplerStatePointersDs data => [encodeHeader16 0x782D#16 data]
  | .state3dSamplerStatePointersGs data => [encodeHeader16 0x782E#16 data]
  | .state3dUrbVs data => [encodeHeader16 0x7830#16 data]
  | .state3dUrbHs data => [encodeHeader16 0x7831#16 data]
  | .state3dUrbDs data => [encodeHeader16 0x7832#16 data]
  | .state3dUrbGs data => [encodeHeader16 0x7833#16 data]
  | .state3dWmChromaKey data => [encodeHeader16 0x784C#16 data]
  | .state3dPsBlend data => [encodeHeader16 0x784D#16 data]
  | .state3dWmDepthStencil data => [encodeHeader16 0x784E#16 data]
  | .state3dPsExtra data => [encodeHeader16 0x784F#16 data]
  | .state3dRaster data => [encodeHeader16 0x7850#16 data]
  | .state3dSbeSwiz data => [encodeHeader16 0x7851#16 data]
  | .state3dWmHzOp data => [encodeHeader16 0x7852#16 data]
  | .state3dInt data => [encodeHeader16 0x7853#16 data]
  | .state3dDrawingRectangle data => [encodeHeader16 0x7900#16 data]
  | .state3dSamplerPaletteLoad0 data => [encodeHeader16 0x7902#16 data]
  | .state3dChromaKey data => [encodeHeader16 0x7904#16 data]
  | .state3dPolyStippleOffset data => [encodeHeader16 0x7906#16 data]
  | .state3dPolyStipplePattern data => [encodeHeader16 0x7907#16 data]
  | .state3dLineStipple data => [encodeHeader16 0x7908#16 data]
  | .state3dAaLineParams data => [encodeHeader16 0x790A#16 data]
  | .state3dGsSvbIndex data => [encodeHeader16 0x790B#16 data]
  | .state3dSamplerPaletteLoad1 data => [encodeHeader16 0x790C#16 data]
  | .state3dMultisample data => [encodeHeader16 0x790D#16 data]
  | .state3dStencilBufferNp data => [encodeHeader16 0x790E#16 data]
  | .state3dHierDepthBufferNp data => [encodeHeader16 0x790F#16 data]
  | .state3dClearParamsNp data => [encodeHeader16 0x7910#16 data]
  | .state3dMonofilterSize data => [encodeHeader16 0x7911#16 data]
  | .state3dPushConstantAllocVs data => [encodeHeader16 0x7912#16 data]
  | .state3dPushConstantAllocHs data => [encodeHeader16 0x7913#16 data]
  | .state3dPushConstantAllocDs data => [encodeHeader16 0x7914#16 data]
  | .state3dPushConstantAllocGs data => [encodeHeader16 0x7915#16 data]
  | .state3dPushConstantAllocPs data => [encodeHeader16 0x7916#16 data]
  | .state3dSoDeclList data => [encodeHeader16 0x7917#16 data]
  | .state3dSoBuffer data => [encodeHeader16 0x7918#16 data]
  | .state3dSamplePattern data => [encodeHeader16 0x791C#16 data]
  | .state3dUrbClear data => [encodeHeader16 0x791D#16 data]
  | .pipeControl data => [encodeHeader16 0x7A00#16 data]
  | .primitive3d data => [encodeHeader16 0x7B00#16 data]
  | .mfxPipeModeSelect data => [encodeHeader16 0x7000#16 data]
  | .mfxSurfaceState data => [encodeHeader16 0x7001#16 data]
  | .mfxPipeBufAddrState data => [encodeHeader16 0x7002#16 data]
  | .mfxIndObjBaseAddrState data => [encodeHeader16 0x7003#16 data]
  | .mfxBspBufBaseAddrState data => [encodeHeader16 0x7004#16 data]
  | .mfx005Unnamed data => [encodeHeader16 0x7005#16 data]
  | .mfxStatePointer data => [encodeHeader16 0x7006#16 data]
  | .mfdItObject data => [encodeHeader16 0x7029#16 data]
  | .mfxAvcImgState data => [encodeHeader16 0x7100#16 data]
  | .mfxAvcQmState data => [encodeHeader16 0x7101#16 data]
  | .mfxAvcDirectmodeState data => [encodeHeader16 0x7102#16 data]
  | .mfxAvcSliceState data => [encodeHeader16 0x7103#16 data]
  | .mfxAvcRefIdxState data => [encodeHeader16 0x7104#16 data]
  | .mfxAvcWeightoffsetState data => [encodeHeader16 0x7105#16 data]
  | .mfdAvcBsdObject data => [encodeHeader16 0x7128#16 data]
  | .mfcAvcFqmState data => [encodeHeader16 0x7142#16 data]
  | .mfcAvcPakInsertObject data => [encodeHeader16 0x7148#16 data]
  | .mfcAvcPakObject data => [encodeHeader16 0x7149#16 data]
  | .mfxVc1PicState data => [encodeHeader16 0x7200#16 data]
  | .mfxVc1PredPipeState data => [encodeHeader16 0x7201#16 data]
  | .mfxVc1DirectmodeState data => [encodeHeader16 0x7202#16 data]
  | .mfdVc1BsdObject data => [encodeHeader16 0x7228#16 data]
  | .mfxMpeg2PicState data => [encodeHeader16 0x7300#16 data]
  | .mfxMpeg2QmState data => [encodeHeader16 0x7301#16 data]
  | .mfdMpeg2BsdObject data => [encodeHeader16 0x7328#16 data]
  | .mfxSingleDwUnnamed => [0x68000000#32]
  | .mediaSubtype2hUnmapped data => [(0x0E#5 ++ data : BitVec (5 + 27))]

/-- A parser that decodes the command: the video parser for the MFX commands, the render parser for all
others (log entry 19). -/
def Instr.homeEngine : Instr → Engine
  | .pipelineSelect ..
  | .stateBaseAddress ..
  | .stateSip ..
  | .swtessBaseAddress ..
  | .gpgpuCsrBaseAddress _
  | .statePrefetch ..
  | .miNoop _
  | .miUserInterrupt _
  | .miWaitForEvent _
  | .miOpcode04hUnnamed _
  | .miArbCheck _
  | .miReportHead _
  | .miArbOnOff _
  | .miBatchBufferEnd _
  | .miSuspendFlush _
  | .miPredicate _
  | .miTopologyFilter _
  | .miSetAppid _
  | .miDisplayFlip _
  | .miSemaphoreMbox _
  | .miSetContext _
  | .miMath _
  | .miStoreDataImm _
  | .miStoreDataIndex _
  | .miLoadRegisterImm _
  | .miUpdateGtt _
  | .miStoreRegisterMem _
  | .miFlushDw _
  | .miClflush _
  | .miReportPerfCount _
  | .miLoadRegisterMem _
  | .miBatchBufferStart _
  | .miConditionalBatchBufferEnd _
  | .xySetupBlt _
  | .xySetupClipBlt _
  | .xySetupMonoPatternSlBlt _
  | .xyPixelBlt _
  | .xyScanlinesBlt _
  | .xyTextBlt _
  | .xyTextImmediateBlt _
  | .colorBlt _
  | .srcCopyBlt _
  | .xyColorBlt _
  | .xyPatBlt _
  | .xyMonoPatBlt _
  | .xySrcCopyBlt _
  | .xyMonoSrcCopyBlt _
  | .xyFullBlt _
  | .xyFullMonoSrcBlt _
  | .xyFullMonoPatternBlt _
  | .xyFullMonoPatternMonoSrcBlt _
  | .xyMonoPatFixedBlt _
  | .xyMonoSrcCopyImmediateBlt _
  | .xyPatBltImmediate _
  | .xySrcCopyChromaBlt _
  | .xyFullImmediatePatternBlt _
  | .xyFullMonoSrcImmediatePatternBlt _
  | .xyPatChromaBlt _
  | .xyPatChromaBltImmediate _
  | .state3dClearParams _
  | .state3dDepthBuffer _
  | .state3dStencilBuffer _
  | .state3dHierDepthBuffer _
  | .state3dVertexBuffers _
  | .state3dVertexElements _
  | .state3dIndexBuffer _
  | .state3dVfStatistics _
  | .state3dViewportStatePointers _
  | .state3dVs _
  | .state3dGs _
  | .state3dClip _
  | .state3dSf _
  | .state3dWm _
  | .state3dConstantVs _
  | .state3dConstantGs _
  | .state3dConstantPs _
  | .state3dSampleMask _
  | .state3dConstantHs _
  | .state3dConstantDs _
  | .state3dHs _
  | .state3dTe _
  | .state3dDs _
  | .state3dStreamout _
  | .state3dSbe _
  | .state3dPs _
  | .state3dViewportStatePointersSfClip _
  | .state3dViewportStatePointersCc _
  | .state3dBlendStatePointers _
  | .state3dDepthStencilStatePointers _
  | .state3dBindingTablePointersVs _
  | .state3dBindingTablePointersHs _
  | .state3dBindingTablePointersDs _
  | .state3dBindingTablePointersGs _
  | .state3dBindingTablePointersPs _
  | .state3dSamplerStatePointersVs _
  | .state3dSamplerStatePointersHs _
  | .state3dSamplerStatePointersDs _
  | .state3dSamplerStatePointersGs _
  | .state3dUrbVs _
  | .state3dUrbHs _
  | .state3dUrbDs _
  | .state3dUrbGs _
  | .state3dWmChromaKey _
  | .state3dPsBlend _
  | .state3dWmDepthStencil _
  | .state3dPsExtra _
  | .state3dRaster _
  | .state3dSbeSwiz _
  | .state3dWmHzOp _
  | .state3dInt _
  | .state3dDrawingRectangle _
  | .state3dSamplerPaletteLoad0 _
  | .state3dChromaKey _
  | .state3dPolyStippleOffset _
  | .state3dPolyStipplePattern _
  | .state3dLineStipple _
  | .state3dAaLineParams _
  | .state3dGsSvbIndex _
  | .state3dSamplerPaletteLoad1 _
  | .state3dMultisample _
  | .state3dStencilBufferNp _
  | .state3dHierDepthBufferNp _
  | .state3dClearParamsNp _
  | .state3dMonofilterSize _
  | .state3dPushConstantAllocVs _
  | .state3dPushConstantAllocHs _
  | .state3dPushConstantAllocDs _
  | .state3dPushConstantAllocGs _
  | .state3dPushConstantAllocPs _
  | .state3dSoDeclList _
  | .state3dSoBuffer _
  | .state3dSamplePattern _
  | .state3dUrbClear _
  | .pipeControl _
  | .primitive3d _
  | .mediaSubtype2hUnmapped _
    => .render
  | .mfxPipeModeSelect _
  | .mfxSurfaceState _
  | .mfxPipeBufAddrState _
  | .mfxIndObjBaseAddrState _
  | .mfxBspBufBaseAddrState _
  | .mfx005Unnamed _
  | .mfxStatePointer _
  | .mfdItObject _
  | .mfxAvcImgState _
  | .mfxAvcQmState _
  | .mfxAvcDirectmodeState _
  | .mfxAvcSliceState _
  | .mfxAvcRefIdxState _
  | .mfxAvcWeightoffsetState _
  | .mfdAvcBsdObject _
  | .mfcAvcFqmState _
  | .mfcAvcPakInsertObject _
  | .mfcAvcPakObject _
  | .mfxVc1PicState _
  | .mfxVc1PredPipeState _
  | .mfxVc1DirectmodeState _
  | .mfdVc1BsdObject _
  | .mfxMpeg2PicState _
  | .mfxMpeg2QmState _
  | .mfdMpeg2BsdObject _
  | .mfxSingleDwUnnamed
    => .video

/-- The longest command whose fields the decoder reads, in DWords (STATE_BASE_ADDRESS). -/
abbrev maxWords : Nat := 10

/-- The bytes of an instruction whose table bits are `w`: the bits above `nbits` are zero, up to the
longest command, and each DWord is stored little-endian (20_memory.md R100). -/
def tableBytes (nbits w : Nat) : List Byte := bytesOfNat (4 * maxWords) (w % 2 ^ nbits)

/-- The parser a table word is given to: the video parser where it decodes a client 3 header, else the
render parser (log entry 19). -/
def tableEngine (bs : List Byte) : Engine :=
  match wordsOfBytes bs with
  | [] => .render
  | w :: _ =>
      if field w 29 3 = 3 then
        match decodeVideo w with
        | .ok _ => .video
        | .bad _ => .render
      else .render

/-- The instruction the decoder reads from a table word. -/
def decodeTableWord (nbits w : Nat) : Option Instr :=
  let bs := tableBytes nbits w
  match decodeBytes (tableEngine bs) bs with
  | .ok i => some i
  | .bad _ => none

end Sys2Proof
end

