-- ==== Sys2Proof/Machine/Fetch.lean ====
section
/-! DEFINITION. Fetching and decoding the next command of a parser, in the order of 60_exceptions.md R771: DW0, client
and opcode, the checks that need no more than the header, then the DWords after it. -/

namespace Sys2Proof.Machine

/-- What fetching the next command answers. -/
inductive Fetched where
  /-- The parser has nothing to do (10_state.md R47, R85). -/
  | idle
  | fault (f : Fault)
  | refused (r : Refusal)
  | command (i : Instr)
deriving DecidableEq, Repr

/-- The refusal a decode error stands for (30_encoding.md R157). A truncated command cannot be met here: the DWords the
decoder asks for are always supplied. -/
def decodeRefusal : DecodeError → Refusal
  | .truncated => .commandPastTail
  | .reservedClient => .reservedClient
  | .reservedOpcode => .reservedOpcode
  | .fulsimEncoding => .fulsimEncoding

/-- Steps 4 to 8 for a command whose fields go beyond its header; all others are complete in DW0 and are checked when
they are executed (60_exceptions.md R771). -/
def State.beforeBody (s : State) : Instr → Option Refusal
  | .stateBaseAddress h .. => s.headerChecks h 8 10
  | .stateSip h .. => s.headerChecks h 0 2
  | .swtessBaseAddress h .. => s.headerChecks h 0 2
  | .statePrefetch h .. => s.headerChecks h 0 2
  | _ => none

/-- Decode a header as if zeros followed it: its command, and how many DWords hold its fields. -/
def decodeHeader (e : Engine) (h : Word) : Decoded := decode e (h :: List.replicate 9 0)

/-- Fetch DWords 1 on, where the command has any, and decode the whole. -/
def State.fetchBody (s : State) (a : GraphicsAddress) (h : Word) (i : Instr) : Fetched :=
  if i.bodyWords = 0 then .command i
  else
    match s.beforeBody i with
    | some r => .refused r
    | none =>
        match s.readWords s.turn (a + 4) i.bodyWords with
        | .error b => .fault (.gttError b)
        | .ok body =>
            match decode s.turn (h :: body) with
            | .ok j => .command j
            | .bad d => .refused (decodeRefusal d)

/-- Fetch and decode the command at `pc` of the parser whose turn it is (60_exceptions.md R771, steps 1 to 9). -/
def State.fetch (s : State) : Fetched :=
  if (s.parser s.turn).idle then .idle
  else
    match s.readWord s.turn (s.parser s.turn).pc with
    | .error b => .fault (.gttError b)
    | .ok h =>
        match decodeHeader s.turn h with
        | .bad d => .refused (decodeRefusal d)
        | .ok i => s.fetchBody (s.parser s.turn).pc h i

end Sys2Proof.Machine
end

