-- ==== Sys2Proof/Machine/ContextImage.lean ====
section
/-! DEFINITION. The logical context images and the per-process hardware status pages, as tables
(49_logical_context.md R720 to R753). No defined command saves or restores an image (log entry 45). -/

namespace Sys2Proof.Machine

/-- A cell of the engine context tables: saved and restored, restored, not restored, not applicable
(49_logical_context.md R721). -/
inductive SaveMode where
  | sr
  | r
  | nr
  | x
deriving DecidableEq, Repr

/-- "Set Before Submitting Context?" (49_logical_context.md R721). -/
inductive SetBefore where
  | yes
  | no
  | x
deriving DecidableEq, Repr

/-- A row of an engine context table, one DWord (49_logical_context.md R721). -/
structure EngineContextRow where
  dw : Nat
  field : String
  restoreInhibited : SaveMode
  ppgttEnabled : SaveMode
  ppgttDisabled : SaveMode
  power : SaveMode
  setBefore : SetBefore
deriving DecidableEq, Repr

/-- "BSD Logical Context Data (MFX)" (49_logical_context.md R722). -/
def videoContext : List EngineContextRow := [
  ⟨0, "Context Control", .r, .sr, .x, .sr, .yes⟩,
  ⟨1, "Ring Head Pointer Register", .r, .sr, .x, .sr, .yes⟩,
  ⟨2, "Ring Tail Pointer Register", .r, .r, .x, .sr, .yes⟩,
  ⟨3, "Batch Buffer Current Head Register", .nr, .sr, .x, .sr, .no⟩,
  ⟨4, "Batch Buffer State Register", .nr, .sr, .x, .sr, .no⟩,
  ⟨5, "PPGTT Directory Cache Valid Register (Software always populates via host)", .r, .r, .x, .sr, .yes⟩,
  ⟨6, "Reserved", .x, .x, .x, .sr, .x⟩,
  ⟨7, "PD Base Virtual Address Register", .r, .r, .x, .sr, .yes⟩,
  ⟨8, "MFX_STATE_POINTER 0", .nr, .sr, .x, .sr, .yes⟩,
  ⟨9, "MFX_STATE_POINTER 1", .nr, .sr, .x, .sr, .yes⟩,
  ⟨10, "MFX_STATE_POINTER 2", .nr, .sr, .x, .sr, .yes⟩,
  ⟨11, "MFX_STATE_POINTER 3", .nr, .sr, .x, .sr, .yes⟩,
  ⟨12, "VCS_CNTR— Media Watchdog Counter Control", .nr, .sr, .x, .sr, .no⟩,
  ⟨13, "VCS_THRSH— Media Watchdog Counter Threshold", .nr, .sr, .x, .sr, .no⟩,
  ⟨14, "Current Context ID Register", .nr, .sr, .x, .sr, .no⟩,
  ⟨15, "Reserved", .x, .x, .x, .sr, .x⟩]

/-- "Copy Engine Logical Context Data" (49_logical_context.md R730). -/
def copyContext : List EngineContextRow := [
  ⟨0, "Reserved", .nr, .x, .x, .x, .x⟩,
  ⟨1, "Ring Head Pointer Register", .r, .sr, .x, .sr, .yes⟩,
  ⟨2, "Ring Tail Pointer Register", .r, .r, .x, .sr, .yes⟩,
  ⟨3, "Reserved", .nr, .x, .x, .x, .x⟩,
  ⟨4, "Reserved", .nr, .x, .x, .x, .x⟩,
  ⟨5, "PPGTT Directory Cache Valid Register (Software always populates via host)", .r, .r, .x, .x, .yes⟩,
  ⟨6, "BCS_SWCTRL Register", .nr, .sr, .x, .sr, .yes⟩,
  ⟨7, "PD Base Virtual Address Register", .r, .r, .x, .x, .yes⟩,
  ⟨8, "Reserved", .nr, .x, .x, .x, .x⟩,
  ⟨9, "Reserved", .nr, .x, .x, .x, .x⟩,
  ⟨10, "Reserved", .nr, .x, .x, .x, .x⟩,
  ⟨11, "Reserved", .nr, .x, .x, .x, .x⟩,
  ⟨12, "Reserved", .nr, .x, .x, .x, .x⟩,
  ⟨13, "Reserved", .nr, .x, .x, .x, .x⟩,
  ⟨14, "Reserved", .nr, .x, .x, .x, .x⟩,
  ⟨15, "Reserved", .nr, .x, .x, .x, .x⟩]

/-- What a row of the render context image holds (49_logical_context.md R740). -/
inductive ImageContent where
  | padding
  | lriHeader (dw : Word)
  | register (offset : Nat)
  | unitData
  | command
deriving DecidableEq, Repr

/-- A row of the render context image: its first DWord and its count (49_logical_context.md R740). -/
structure ImageRow where
  offset : Nat
  description : String
  content : ImageContent
  unit : String
  count : Nat
deriving DecidableEq, Repr

/-- Rows 0 to 59 of the render context image (49_logical_context.md R740). -/
def renderImage0 : List ImageRow := [
  ⟨0, "NOOP", .padding, "CS", 1⟩,
  ⟨1, "Load_Register_Immediate header", .lriHeader 0x1100105D, "CS", 1⟩,
  ⟨2, "RING_BUFFER_START", .register 0x2038, "CS", 2⟩,
  ⟨4, "RING_BUFFER_CONTROL", .register 0x203C, "CS", 2⟩,
  ⟨6, "RVSYNC", .register 0x2040, "CS", 2⟩,
  ⟨8, "RBSYNC", .register 0x2044, "CS", 2⟩,
  ⟨10, "RC_PWRCTX_MAXCNT", .register 0x2054, "CS", 2⟩,
  ⟨12, "CTX_WA_PTR", .register 0x2058, "CS", 2⟩,
  ⟨14, "NOPID", .register 0x2094, "CS", 2⟩,
  ⟨16, "HWSTAM", .register 0x2098, "CS", 2⟩,
  ⟨18, "FF_THREAD_MODE", .register 0x20A0, "CS", 2⟩,
  ⟨20, "IMR", .register 0x20A8, "CS", 2⟩,
  ⟨22, "EIR", .register 0x20B0, "CS", 2⟩,
  ⟨24, "EMR", .register 0x20B4, "CS", 2⟩,
  ⟨26, "CMD_CCTL_0", .register 0x20C4, "CS", 2⟩,
  ⟨28, "GAFS_Mode", .register 0x212C, "CS", 2⟩,
  ⟨30, "UHPTR", .register 0x2134, "CS", 2⟩,
  ⟨32, "BB_PREEMPT_ADDR", .register 0x2148, "CS", 2⟩,
  ⟨34, "RING_BUFFER_HEAD_PREEMPT_REG", .register 0x214C, "CS", 2⟩,
  ⟨36, "CXT_SIZE", .register 0x21A8, "CS", 2⟩,
  ⟨38, "CXT_OFFSET", .register 0x21AC, "CS", 2⟩,
  ⟨40, "CXT_PIPESTATEBASE", .register 0x21B0, "CS", 2⟩,
  ⟨42, "PREEMPT_DLY", .register 0x2214, "CS", 2⟩,
  ⟨44, "GFX_MODE", .register 0x229C, "CS", 2⟩,
  ⟨46, "MTCH_CID_RST", .register 0x222C, "CS", 2⟩,
  ⟨48, "SYNC_FLIP_STATUS", .register 0x22D0, "CS", 2⟩,
  ⟨50, "SYNC_FLIP_STATUS_1", .register 0x22D4, "CS", 2⟩,
  ⟨52, "NOOP", .padding, "CS", 12⟩,
  ⟨64, "NOOP", .padding, "GPM", 1⟩,
  ⟨65, "Load_Register_Immediate header", .lriHeader 0x110010D5, "GPM", 1⟩,
  ⟨66, "GPM Data(Inc GAM)", .unitData, "GPM", 214⟩,
  ⟨280, "NOOP", .padding, "GPM", 1⟩,
  ⟨281, "Load_Register_Immediate header", .lriHeader 0x1100104B, "GPM", 1⟩,
  ⟨282, "MBCunit", .unitData, "GPM", 76⟩,
  ⟨358, "NOOP", .padding, "GPM", 1⟩,
  ⟨359, "Load_Register_Immediate header", .lriHeader 0x11001013, "GPM", 1⟩,
  ⟨360, "GCPunit", .unitData, "GPM", 20⟩,
  ⟨380, "NOOP", .padding, "GPM", 1⟩,
  ⟨381, "Load_Register_Immediate header", .lriHeader 0x1100103F, "GPM", 1⟩,
  ⟨382, "GDTunit", .unitData, "GPM", 64⟩,
  ⟨446, "NOOP", .padding, "GPM", 1⟩,
  ⟨447, "Load_Register_Immediate header", .lriHeader 0x11001035, "GPM", 1⟩,
  ⟨448, "GAMunit", .unitData, "GPM", 52⟩,
  ⟨500, "NOOP", .padding, "GPM", 28⟩,
  ⟨528, "NOOP", .padding, "CS", 1⟩,
  ⟨529, "Load_Register_Immediate header", .lriHeader 0x11001017, "CS", 1⟩,
  ⟨530, "Context Control", .register 0x2244, "CS", 2⟩,
  ⟨532, "Ring Head Pointer Register", .register 0x2034, "CS", 2⟩,
  ⟨534, "Ring Tail Pointer Register", .register 0x2030, "CS", 2⟩,
  ⟨536, "Batch Buffer Current Head Register", .register 0x2140, "CS", 2⟩,
  ⟨538, "Batch Buffer State Register", .register 0x2110, "CS", 2⟩,
  ⟨540, "PPGTT Directory Cache Valid Register", .register 0x2220, "CS", 2⟩,
  ⟨542, "PP_DIR_BASE", .register 0x2228, "CS", 2⟩,
  ⟨544, "Read Offset in Piipelined State Page (8 CL aligned)", .register 0x224C, "CS", 2⟩,
  ⟨546, "Committed Vertex Number", .register 0x21C4, "CS", 2⟩,
  ⟨548, "Committed Instance ID", .register 0x21C8, "CS", 2⟩,
  ⟨550, "Committed Primitive ID", .register 0x21CC, "CS", 2⟩,
  ⟨552, "CCID Register", .register 0x2180, "CS", 2⟩,
  ⟨554, "NOOP", .padding, "CS", 6⟩,
  ⟨560, "NOOP", .padding, "CS", 1⟩]

/-- Rows 60 to 119 of the render context image (49_logical_context.md R740). -/
def renderImage1 : List ImageRow := [
  ⟨561, "Load_Register_Immediate header", .lriHeader 0x1100105F, "CS", 1⟩,
  ⟨562, "EXCC", .register 0x2028, "CS", 2⟩,
  ⟨564, "MI_MODE", .register 0x209C, "CS", 2⟩,
  ⟨566, "INSTPM", .register 0x20C0, "CS", 2⟩,
  ⟨568, "PR_CTR_CTL", .register 0x2178, "CS", 2⟩,
  ⟨570, "PR_CTR_THRSH", .register 0x217C, "CS", 2⟩,
  ⟨572, "IA_VERTICES_COUNT", .register 0x2310, "CS", 4⟩,
  ⟨576, "IA_PRIMITIVES_COUNT", .register 0x2318, "CS", 4⟩,
  ⟨580, "VS_INVOCATION_COUNT", .register 0x2320, "CS", 4⟩,
  ⟨584, "HS_INVOCATION_COUNT", .register 0x2300, "CS", 4⟩,
  ⟨588, "DS_INVOCATION_COUNT", .register 0x2308, "CS", 4⟩,
  ⟨592, "GS_INVOCATION_COUNT", .register 0x2328, "CS", 4⟩,
  ⟨596, "GS_PRIMITIVES_COUNT", .register 0x2330, "CS", 4⟩,
  ⟨600, "CL_INVOCATION_COUNT", .register 0x2338, "CS", 4⟩,
  ⟨604, "CL_PRIMITIVES_COUNT", .register 0x2340, "CS", 4⟩,
  ⟨608, "PS_INVOCATION_COUNT", .register 0x2348, "CS", 4⟩,
  ⟨612, "PS_DEPTH_COUNT", .register 0x2350, "CS", 4⟩,
  ⟨616, "VFSKPD", .register 0x2470, "CS", 2⟩,
  ⟨618, "TIMESTAMP Register (LSB)", .register 0x2358, "CS", 2⟩,
  ⟨620, "GPUGPU_DISPATCHDIMX", .register 0x2500, "CS", 2⟩,
  ⟨622, "GPUGPU_DISPATCHDIMY", .register 0x2504, "CS", 2⟩,
  ⟨624, "GPUGPU_DISPATCHDIMZ", .register 0x2508, "CS", 2⟩,
  ⟨626, "MI_PREDICATE_SRC0", .register 0x2400, "CS", 2⟩,
  ⟨628, "MI_PREDICATE_SRC0", .register 0x2404, "CS", 2⟩,
  ⟨630, "MI_PREDICATE_SRC1", .register 0x2408, "CS", 2⟩,
  ⟨632, "MI_PREDICATE_SRC1", .register 0x240C, "CS", 2⟩,
  ⟨634, "MI_PREDICATE_DATA", .register 0x2410, "CS", 2⟩,
  ⟨636, "MI_PREDICATE_DATA", .register 0x2414, "CS", 2⟩,
  ⟨638, "MI_PRED_RESULT", .register 0x2418, "CS", 2⟩,
  ⟨640, "3DPRIM_END_OFFSET", .register 0x2420, "CS", 2⟩,
  ⟨642, "3DPRIM_START_VERTEX", .register 0x2430, "CS", 2⟩,
  ⟨644, "3DPRIM_VERTEX_COUNT", .register 0x2434, "CS", 2⟩,
  ⟨646, "3DPRIM_INSTANCE_COUNT", .register 0x2438, "CS", 2⟩,
  ⟨648, "3DPRIM_START_INSTANCE", .register 0x243C, "CS", 2⟩,
  ⟨650, "3DPRIM_BASE_VERTEX", .register 0x2440, "CS", 2⟩,
  ⟨652, "GPGPU_THREADS_DISPATCHED", .register 0x2290, "CS", 2⟩,
  ⟨654, "MI_TOPOLOGY_FILTER", .command, "CS", 1⟩,
  ⟨655, "MI_URB_CLEAR", .command, "CS", 2⟩,
  ⟨657, "MI_SET_APPID", .command, "CS", 1⟩,
  ⟨658, "PIPELINE_SELECT", .command, "CS", 1⟩,
  ⟨659, "STATE_BASE_ADDRESS", .command, "CS", 10⟩,
  ⟨669, "3DSTATE_PUSH_CONSTANT_ALLOC_VS", .command, "CS", 2⟩,
  ⟨671, "3DSTATE_PUSH_CONSTANT_ALLOC_HS", .command, "CS", 2⟩,
  ⟨673, "3DSTATE_PUSH_CONSTANT_ALLOC_DS", .command, "CS", 2⟩,
  ⟨675, "3DSTATE_PUSH_CONSTANT_ALLOC_GS", .command, "CS", 2⟩,
  ⟨677, "3DSTATE_PUSH_CONSTANT_ALLOC_PS", .command, "CS", 2⟩,
  ⟨679, "NOOP", .padding, "CS", 5⟩,
  ⟨684, "NOOP", .padding, "SARB", 1⟩,
  ⟨685, "Load_Register_Immediate header", .lriHeader 0x1100105B, "SARB", 1⟩,
  ⟨686, "SARB Error Status", .register 0xB004, "SARB", 2⟩,
  ⟨688, "L3CD Error Status register 1", .register 0xB008, "SARB", 2⟩,
  ⟨690, "L3CD Error Status register 2", .register 0xB00C, "SARB", 2⟩,
  ⟨692, "L3 SQC registers 1", .register 0xB010, "SARB", 2⟩,
  ⟨694, "L3 SQC registers 2", .register 0xB014, "SARB", 2⟩,
  ⟨696, "L3 SQC registers 3", .register 0xB018, "SARB", 2⟩,
  ⟨698, "L3 Control Register1", .register 0xB01C, "SARB", 2⟩,
  ⟨700, "L3 Control Register2", .register 0xB020, "SARB", 2⟩,
  ⟨702, "L3 Control Register3", .register 0xB024, "SARB", 2⟩,
  ⟨704, "L3 SLM Register", .register 0xB028, "SARB", 2⟩,
  ⟨706, "Arbiter Control Register", .register 0xB02C, "SARB", 2⟩]

/-- Rows 120 to 179 of the render context image (49_logical_context.md R740). -/
def renderImage2 : List ImageRow := [
  ⟨708, "L3 bank0 reg0 log error", .register 0xB070, "SARB", 2⟩,
  ⟨710, "L3 bank0 reg1 log error", .register 0xB074, "SARB", 2⟩,
  ⟨712, "L3 bank0 reg2 log error", .register 0xB078, "SARB", 2⟩,
  ⟨714, "L3 bank0 reg3 log error", .register 0xB07C, "SARB", 2⟩,
  ⟨716, "L3 bank0 reg4 log error", .register 0xB080, "SARB", 2⟩,
  ⟨718, "L3 bank0 reg5 log error", .register 0xB084, "SARB", 2⟩,
  ⟨720, "L3 bank0 reg6 log error", .register 0xB088, "SARB", 2⟩,
  ⟨722, "L3 bank0 reg7 log error", .register 0xB08C, "SARB", 2⟩,
  ⟨724, "L3 bank1 reg0 log error", .register 0xB090, "SARB", 2⟩,
  ⟨726, "L3 bank1 reg1 log error", .register 0xB094, "SARB", 2⟩,
  ⟨728, "L3 bank1 reg2 log error", .register 0xB098, "SARB", 2⟩,
  ⟨730, "L3 bank1 reg3 log error", .register 0xB09C, "SARB", 2⟩,
  ⟨732, "L3 bank1 reg4 log error", .register 0xB0A0, "SARB", 2⟩,
  ⟨734, "L3 bank1 reg5 log error", .register 0xB0A4, "SARB", 2⟩,
  ⟨736, "L3 bank1 reg6 log error", .register 0xB0A8, "SARB", 2⟩,
  ⟨738, "L3 bank1 reg7 log error", .register 0xB0AC, "SARB", 2⟩,
  ⟨740, "L3 bank2 reg0 log error", .register 0xB0B0, "SARB", 2⟩,
  ⟨742, "L3 bank2 reg1 log error", .register 0xB0B4, "SARB", 2⟩,
  ⟨744, "L3 bank2 reg2 log error", .register 0xB0B8, "SARB", 2⟩,
  ⟨746, "L3 bank2 reg3 log error", .register 0xB0BC, "SARB", 2⟩,
  ⟨748, "L3 bank2 reg4 log error", .register 0xB0C0, "SARB", 2⟩,
  ⟨750, "L3 bank2 reg5 log error", .register 0xB0C4, "SARB", 2⟩,
  ⟨752, "L3 bank2 reg6 log error", .register 0xB0C8, "SARB", 2⟩,
  ⟨754, "L3 bank2 reg7 log error", .register 0xB0CC, "SARB", 2⟩,
  ⟨756, "L3 bank3 reg0 log error", .register 0xB0D0, "SARB", 2⟩,
  ⟨758, "L3 bank3 reg1 log error", .register 0xB0D4, "SARB", 2⟩,
  ⟨760, "L3 bank3 reg2 log error", .register 0xB0D8, "SARB", 2⟩,
  ⟨762, "L3 bank3 reg3 log error", .register 0xB0DC, "SARB", 2⟩,
  ⟨764, "L3 bank3 reg4 log error", .register 0xB0E0, "SARB", 2⟩,
  ⟨766, "L3 bank3 reg5 log error", .register 0xB0E4, "SARB", 2⟩,
  ⟨768, "L3 bank3 reg6 log error", .register 0xB0E8, "SARB", 2⟩,
  ⟨770, "L3 bank3 reg7 log error", .register 0xB0EC, "SARB", 2⟩,
  ⟨772, "L3 SQC register 4", .register 0xB034, "SARB", 2⟩,
  ⟨774, "3DSTATE_VS", .command, "SVG", 6⟩,
  ⟨780, "3DSTATE_BINDING_TABLE_POINTERS_VS", .command, "SVG", 2⟩,
  ⟨782, "3DSTATE_SAMPLER_STATE_POINTERS_VS", .command, "SVG", 2⟩,
  ⟨784, "3DSTATE_CONSTANT_VS", .command, "SVG", 7⟩,
  ⟨791, "3DSTATE_URB_VS", .command, "SVG", 2⟩,
  ⟨793, "3DSTATE_HS", .command, "SVG", 7⟩,
  ⟨800, "3DSTATE_BINDING_TABLE_POINTERS_HS", .command, "SVG", 2⟩,
  ⟨802, "3DSTATE_SAMPLER_STATE_POINTERS_HS", .command, "SVG", 2⟩,
  ⟨804, "3DSTATE_CONSTANT_HS", .command, "SVG", 7⟩,
  ⟨811, "3DSTATE_URB_HS", .command, "SVG", 2⟩,
  ⟨813, "3DSTATE_TE", .command, "SVG", 4⟩,
  ⟨817, "3DSTATE_DS", .command, "SVG", 6⟩,
  ⟨823, "3DSTATE_BINDING_TABLE_POINTERS_DS", .command, "SVG", 2⟩,
  ⟨825, "3DSTATE_SAMPLER_STATE_POINTERS_DS", .command, "SVG", 2⟩,
  ⟨827, "3DSTATE_CONSTANT_DS", .command, "SVG", 7⟩,
  ⟨834, "3DSTATE_URB_DS", .command, "SVG", 2⟩,
  ⟨836, "3DSTATE_GS", .command, "SVG", 7⟩,
  ⟨843, "3DSTATE_BINDING_TABLE_POINTERS_GS", .command, "SVG", 2⟩,
  ⟨845, "3DSTATE_SAMPLER_STATE_POINTERS_GS", .command, "SVG", 2⟩,
  ⟨847, "3DSTATE_CONSTANT_GS", .command, "SVG", 7⟩,
  ⟨854, "3DSTATE_URB_GS", .command, "SVG", 2⟩,
  ⟨856, "3DSTATE_STREAMOUT", .command, "SVG", 3⟩,
  ⟨859, "3DSTATE_CLIP", .command, "SVG", 4⟩,
  ⟨863, "3DSTATE_VIEWPORT_STATE_POINTERS_CL_SF", .command, "SVG", 2⟩,
  ⟨865, "3DSTATE_SF", .command, "SVG", 7⟩,
  ⟨872, "3DSTATE_SCISSOR_STATE_POINTERS", .command, "SVG", 2⟩,
  ⟨874, "3DSTATE_MULTISAMPLE", .command, "SVG", 4⟩]

/-- Rows 180 to 239 of the render context image (49_logical_context.md R740). 43_3d_commands.md R415 puts
3DSTATE_SAMPLER_STATE_POINTERS_PS in the SVG section, the table of R740 in SVL: the table is followed (DESIGN CHOICE, log
entry 45). -/
def renderImage3 : List ImageRow := [
  ⟨878, "3DSTATE_DRAWING_RECTANGLE", .command, "SVG", 4⟩,
  ⟨882, "SWTESS_BASE_ADDRESS", .command, "SVG", 2⟩,
  ⟨884, "NOOP", .padding, "SVG", 2⟩,
  ⟨886, "3DSTATE_WM", .command, "SVL", 3⟩,
  ⟨889, "3DSTATE_VIEWPORT_STATE_POINTERS_CC", .command, "SVL", 2⟩,
  ⟨891, "3DSTATE_CC_STATE_POINTERS", .command, "SVL", 2⟩,
  ⟨893, "3DSTATE_DEPTHSTENCIL_STATE_POINTERS", .command, "SVL", 2⟩,
  ⟨895, "3DSTATE_SAMPLE_MASK", .command, "SVL", 2⟩,
  ⟨897, "3DSTATE_SBE", .command, "SVL", 14⟩,
  ⟨911, "3DSTATE_CONSTANT_PS", .command, "SVL", 7⟩,
  ⟨918, "3DSTATE_PS", .command, "SVL", 8⟩,
  ⟨926, "3DSTATE_BINDING_TABLE_POINTERS_PS", .command, "SVL", 2⟩,
  ⟨928, "3DSTATE_SAMPLER_STATE_POINTERS_PS", .command, "SVL", 2⟩,
  ⟨930, "3DSTATE_BLEND_STATE_POINTERS", .command, "SVL", 2⟩,
  ⟨932, "Load_Register_Immediate header", .lriHeader 0x1100100B, "SVL", 1⟩,
  ⟨933, "Cache_Mode_0", .register 0x7000, "SVL", 2⟩,
  ⟨935, "Cache_Mode_1", .register 0x7004, "SVL", 2⟩,
  ⟨937, "GT_MODE", .register 0x7008, "SVL", 2⟩,
  ⟨939, "FBC_RT_BASE_ADDR_REGISTER", .register 0x7020, "SVL", 2⟩,
  ⟨941, "STATE_SIP", .command, "SVL", 2⟩,
  ⟨943, "3DSTATE_DEPTH_BUFFER", .command, "SVL", 7⟩,
  ⟨950, "3DSTATE_STENCIL_BUFFER", .command, "SVL", 3⟩,
  ⟨953, "3DSTATE_HIER_DEPTH_BUFFER", .command, "SVL", 3⟩,
  ⟨956, "3DSTATE_CLEAR_PARAMS", .command, "SVL", 3⟩,
  ⟨959, "NOOP", .padding, "SVL", 3⟩,
  ⟨962, "NOOP", .padding, "TDL0", 1⟩,
  ⟨963, "Load_Register_Immediate header", .lriHeader 0x11001011, "TDL0", 1⟩,
  ⟨964, "TD_CTL2", .register 0xE404, "TDL0", 2⟩,
  ⟨966, "TD_VF_VS_EMSK", .register 0xE408, "TDL0", 2⟩,
  ⟨968, "TD_GS_EMSK", .register 0xE40C, "TDL0", 2⟩,
  ⟨970, "TD_WIZ_EMSK", .register 0xE410, "TDL0", 2⟩,
  ⟨972, "TD_TS_EMSK", .register 0xE428, "TDL0", 2⟩,
  ⟨974, "TD_HS_EMSK", .register 0xE4B0, "TDL0", 2⟩,
  ⟨976, "TD_DS_EMSK", .register 0xE4B4, "TDL0", 2⟩,
  ⟨978, "NOOP", .padding, "TDL0", 12⟩,
  ⟨990, "NOOP", .padding, "TDL1", 1⟩,
  ⟨991, "Load_Register_Immediate header", .lriHeader 0x11001011, "TDL1", 1⟩,
  ⟨992, "TD_CTL2", .register 0xF404, "TDL1", 2⟩,
  ⟨994, "TD_VF_VS_EMSK", .register 0xF408, "TDL1", 2⟩,
  ⟨996, "TD_GS_EMSK", .register 0xF40C, "TDL1", 2⟩,
  ⟨998, "TD_WIZ_EMSK", .register 0xF410, "TDL1", 2⟩,
  ⟨1000, "TD_TS_EMSK", .register 0xF428, "TDL1", 2⟩,
  ⟨1002, "TD_HS_EMSK", .register 0xF4B0, "TDL1", 2⟩,
  ⟨1004, "TD_DS_EMSK", .register 0xF4B4, "TDL1", 2⟩,
  ⟨1006, "NOOP", .padding, "TDL1", 12⟩,
  ⟨1018, "NOOP", .padding, "WM", 1⟩,
  ⟨1019, "Load_Register_Immediate header", .lriHeader 0x11001003, "WM", 1⟩,
  ⟨1020, "SuperSpan Count", .register 0x5520, "WM", 2⟩,
  ⟨1022, "3DSTATE_POLY_STIPPLE_PATTERN", .command, "WM", 33⟩,
  ⟨1055, "3DSTATE_AA_LINE_PARAMS", .command, "WM", 3⟩,
  ⟨1058, "3DSTATE_POLY_STIPPLE_OFFSET", .command, "WM", 2⟩,
  ⟨1060, "3DSTATE_LINE_STIPPLE", .command, "WM", 3⟩,
  ⟨1063, "NOOP", .padding, "WM", 1⟩,
  ⟨1064, "NOOP", .padding, "SC0", 1⟩,
  ⟨1065, "Load_Register_Immediate header", .lriHeader 0x11001003, "SC0", 1⟩,
  ⟨1066, "NOOP", .padding, "SC0", 10⟩,
  ⟨1076, "NOOP", .padding, "SC1", 1⟩,
  ⟨1077, "Load_Register_Immediate header", .lriHeader 0x11001003, "SC1", 1⟩,
  ⟨1078, "NOOP", .padding, "SC1", 10⟩,
  ⟨1088, "3DSTATE_MONOFILTER_SIZE", .command, "SC0/1", 2⟩]

/-- Rows 240 to 272 of the render context image (49_logical_context.md R740). -/
def renderImage4 : List ImageRow := [
  ⟨1090, "3DSTATE_CHROMA_KEY", .command, "SC0/1", 16⟩,
  ⟨1106, "NOOP", .padding, "SC0/1", 6⟩,
  ⟨1112, "MEDIA_VFE_STATE", .command, "VFE", 8⟩,
  ⟨1120, "MEDIA_CURBE_LOAD", .command, "VFE", 4⟩,
  ⟨1124, "MEDIA_INTERFACE_DESCRIPTOR_LOAD", .command, "VFE", 4⟩,
  ⟨1128, "MEDIA_OBJECT_PRT/GPGPU_WALKER", .command, "VFE", 16⟩,
  ⟨1144, "MEDIA_STATE_FLUSH", .command, "VFE", 2⟩,
  ⟨1146, "NOOP", .padding, "VFE", 6⟩,
  ⟨1152, "3DSTATE_SAMPLER_PALETTE_LOAD0", .command, "DM0/1", 257⟩,
  ⟨1409, "3DSTATE_SAMPLER_PALETTE_LOAD1", .command, "DM0/1", 257⟩,
  ⟨1666, "NOOP", .padding, "DM0/1", 14⟩,
  ⟨1680, "NOOP", .padding, "SOL", 1⟩,
  ⟨1681, "Load_Register_Immediate header", .lriHeader 0x11001027, "SOL", 1⟩,
  ⟨1682, "SO_NUM_PRIMS_WRITTEN0", .register 0x5200, "SOL", 4⟩,
  ⟨1686, "SO_NUM_PRIMS_WRITTEN1", .register 0x5208, "SOL", 4⟩,
  ⟨1690, "SO_NUM_PRIMS_WRITTEN2", .register 0x5210, "SOL", 4⟩,
  ⟨1694, "SO_NUM_PRIMS_WRITTEN3", .register 0x5218, "SOL", 4⟩,
  ⟨1698, "SO_PRIM_STORAGE_NEEDED0", .register 0x5240, "SOL", 4⟩,
  ⟨1702, "SO_PRIM_STORAGE_NEEDED1", .register 0x5248, "SOL", 4⟩,
  ⟨1706, "SO_PRIM_STORAGE_NEEDED2", .register 0x5250, "SOL", 4⟩,
  ⟨1710, "SO_PRIM_STORAGE_NEEDED3", .register 0x5258, "SOL", 4⟩,
  ⟨1714, "SO_WRITE_OFFSET0", .register 0x5280, "SOL", 2⟩,
  ⟨1716, "SO_WRITE_OFFSET1", .register 0x5284, "SOL", 2⟩,
  ⟨1718, "SO_WRITE_OFFSET2", .register 0x5288, "SOL", 2⟩,
  ⟨1720, "SO_WRITE_OFFSET3", .register 0x528C, "SOL", 2⟩,
  ⟨1722, "3DSTATE_SO_BUFFER", .command, "SOL", 16⟩,
  ⟨1738, "NOOP", .padding, "SOL", 3⟩,
  ⟨1741, "3DSTATE_SO_DECL_LIST", .command, "SOL", 259⟩,
  ⟨2000, "3DSTATE_INDEX_BUFFER", .command, "VF", 3⟩,
  ⟨2003, "3DSTATE_VERTEX_BUFFERS", .command, "VF", 133⟩,
  ⟨2136, "3DSTATE_VERTEX_ELEMENTS", .command, "VF", 69⟩,
  ⟨2205, "3DSTATE_VF_STATISTICS", .command, "VF", 1⟩,
  ⟨2206, "NOOP", .padding, "VF", 2⟩]

/-- "Render Logical Context Data" (49_logical_context.md R740). -/
def renderImage : List ImageRow := renderImage0 ++ renderImage1 ++ renderImage2 ++ renderImage3 ++ renderImage4

/-- The DWords of an image, summed over its rows. -/
def imageLength (l : List ImageRow) : Nat := (l.map (·.count)).sum

/-- Each row starts where the one before it ends. -/
def contiguousFrom : Nat → List ImageRow → Bool
  | _, [] => true
  | n, r :: rest => r.offset == n && contiguousFrom (n + r.count) rest

/-- The DWords a register takes in an image: one Load_Register_Immediate entry of two for each of its DWords
(49_logical_context.md R740). -/
def registerEntryDwords (width : Nat) : Nat := width / 32 * 2

/-- The DWords listed after a Load_Register_Immediate header, up to the next row that is no register and no unit data
(49_logical_context.md R741). -/
def listedAfter : List ImageRow → Nat
  | [] => 0
  | r :: rest =>
      match r.content with
      | .register _ => r.count + listedAfter rest
      | .unitData => r.count + listedAfter rest
      | .padding => 0
      | .lriHeader _ => 0
      | .command => 0

/-- For each header: its DWord offset, its `NN` and the number listed (49_logical_context.md R741). -/
def headerCounts : List ImageRow → List (Nat × Nat × Nat)
  | [] => []
  | r :: rest =>
      match r.content with
      | .lriHeader w => (r.offset, w.toNat % 256, listedAfter rest) :: headerCounts rest
      | .padding => headerCounts rest
      | .register _ => headerCounts rest
      | .unitData => headerCounts rest
      | .command => headerCounts rest

/-- "Logical Contexts are aligned to 256-byte boundaries" (49_logical_context.md R720). -/
def contextAligned (a : GraphicsAddress) : Bool := a.toNat % Config.contextAlignment == 0

/-! ## Per-process hardware status page -/

/-- What a DWord of the status page is for (49_logical_context.md R750 to R753). -/
inductive StatusDword where
  | ringHeadStorage
  | generalPurpose
  | lastSwitchTimestamp
  | preemptRequestTimestamp
  | contextRestoreTimestamp
  | contextSaveTimestamp
  | reserved
deriving DecidableEq, Repr

/-- DWords of the status page: 400h, 4 KB (49_logical_context.md R751). -/
def statusPageDwords : Nat := 0x400

/-- DWord `k` of an engine's status page (49_logical_context.md R750 to R753). -/
def statusDword (e : Engine) (k : Nat) : StatusDword :=
  if k = 4 then .ringHeadStorage
  else if 0x20 ≤ k ∧ k < statusPageDwords then .generalPurpose
  else match e with
    | .video => .reserved
    | .blitter => .reserved
    | .render =>
        if k = 0x18 then .lastSwitchTimestamp
        else if k = 0x19 then .preemptRequestTimestamp
        else if k = 0x1A then .contextRestoreTimestamp
        else if k = 0x1B then .contextSaveTimestamp
        else .reserved

end Sys2Proof.Machine
end

