-- ==== Sys2Proof/Machine/ChannelFormats.lean ====
section
/-! DEFINITION. Channel, pixel, palette, video, depth and stencil formats: functions from bits to exact values
(45_channel_formats.md R500 to R546). No command of the model interprets them. -/

namespace Sys2Proof.Formats

/-! ## Channel formats -/

/-- `unorm(n, u) = u / (2^n - 1)` (45_channel_formats.md R501). -/
def unorm (n u : Nat) : ℚ := (u : ℚ) / ((2 : ℚ) ^ n - 1)

/-- The two's complement reading of an n-bit value (45_channel_formats.md R505). -/
def signed (n u : Nat) : Int := if u < 2 ^ (n - 1) then (u : Int) else (u : Int) - 2 ^ n

/-- `snorm(n, s) = max(-1.0, s / (2^(n-1) - 1))` (45_channel_formats.md R503). -/
def snorm (n u : Nat) : ℚ := max (-1) ((signed n u : ℚ) / ((2 : ℚ) ^ (n - 1) - 1))

/-- Division rounded to nearest, ties to even. -/
def roundEven (m d : Nat) : Nat :=
  let q := m / d
  let r := m % d
  if 2 * r < d then q else if 2 * r = d then (if q % 2 = 0 then q else q + 1) else q + 1

/-- A natural number rounded to the nearest float32, ties to even: 24 significant bits (45_channel_formats.md R504). -/
def roundToFloat32 (u : Nat) : Nat :=
  if u < 2 ^ 24 then u
  else
    let sh := u.log2 - 23
    roundEven u (2 ^ sh) * 2 ^ sh

/-- `uint(n, u)`: the value kept as an integer (45_channel_formats.md R504). -/
def uint (u : Nat) : Nat := u

/-- `uscaled(n, u)` (45_channel_formats.md R504). -/
def uscaled (u : Nat) : ℚ := (roundToFloat32 u : ℚ)

/-- `sint(n, s)`: the value kept as an integer (45_channel_formats.md R505). -/
def sint (n u : Nat) : Int := signed n u

/-- `sscaled(n, s)` (45_channel_formats.md R505). -/
def sscaled (n u : Nat) : ℚ :=
  if signed n u < 0 then -(roundToFloat32 (signed n u).natAbs : ℚ) else (roundToFloat32 (signed n u).natAbs : ℚ)

/-- The value of a float (45_channel_formats.md R507): zero and infinity are signed. -/
inductive FloatValue where
  | nan
  | infinity (negative : Bool)
  | finite (negative : Bool) (magnitude : ℚ)
deriving DecidableEq, Repr

/-- A float with `eb` exponent bits and `fb` fraction bits from its fields: bias `2^(eb-1) - 1`, hidden one, denormals
(45_channel_formats.md R507 to R512). -/
def floatOf (eb fb : Nat) (negative : Bool) (e f : Nat) : FloatValue :=
  let bias : Int := 2 ^ (eb - 1) - 1
  if e = 2 ^ eb - 1 then
    if f = 0 then .infinity negative else .nan
  else if e = 0 then
    .finite negative ((2 : ℚ) ^ (1 - bias) * ((f : ℚ) / 2 ^ fb))
  else .finite negative ((2 : ℚ) ^ ((e : Int) - bias) * (1 + (f : ℚ) / 2 ^ fb))

/-- 32-bit floating point (45_channel_formats.md R507). -/
def float32 (x : BitVec 32) : FloatValue := floatOf 8 23 (x.getLsbD 31) (bitsOf x 30 23) (bitsOf x 22 0)

/-- 64-bit floating point (45_channel_formats.md R508). -/
def float64 (x : BitVec 64) : FloatValue := floatOf 11 52 (x.getLsbD 63) (bitsOf x 62 52) (bitsOf x 51 0)

/-- 16-bit floating point (45_channel_formats.md R509). -/
def float16 (x : BitVec 16) : FloatValue := floatOf 5 10 (x.getLsbD 15) (bitsOf x 14 10) (bitsOf x 9 0)

/-- 11-bit floating point: no sign (45_channel_formats.md R511). -/
def float11 (x : BitVec 11) : FloatValue := floatOf 5 6 false (bitsOf x 10 6) (bitsOf x 5 0)

/-- 10-bit floating point: no sign (45_channel_formats.md R512). -/
def float10 (x : BitVec 10) : FloatValue := floatOf 5 5 false (bitsOf x 9 5) (bitsOf x 4 0)

/-- Exponent and fraction bits of the float16 nearest to a finite float32 magnitude, ties to even, values of 65520 and
more to infinity (45_channel_formats.md R510). In units of the smallest float16 step at the value's exponent the
magnitude is `m / 2^sh`. -/
def f16Magnitude (e f : Nat) : Nat :=
  let m := if e = 0 then f else 2 ^ 23 + f
  if 113 ≤ e then min ((e - 113) * 1024 + roundEven m (2 ^ 13)) 0x7C00
  else roundEven m (2 ^ (126 - max e 1))

/-- `f32_to_f16`: round to nearest even (45_channel_formats.md R510). Which NaN a NaN becomes is not stated: a free value
among the float16 NaNs (log entry 38). -/
def f32ToF16 (x : BitVec 32) : BitVec 16 :=
  let e := bitsOf x 30 23
  let f := bitsOf x 22 0
  if e = 255 ∧ f ≠ 0 then
    (BitVec.ofBool (Config.f16NanSign x) ++ 31#5 ++
      (if Config.f16NanFraction x = 0 then 1#10 else Config.f16NanFraction x) : BitVec (1 + 5 + 10))
  else
    BitVec.ofNat 16 ((if x.getLsbD 31 then 0x8000 else 0) + (if e = 255 then 0x7C00 else f16Magnitude e f))

/-- The shared-exponent pixel `R9G9B9E5`: red, green and blue (45_channel_formats.md R513). -/
def r9g9b9e5 (p : BitVec 32) : ℚ × ℚ × ℚ :=
  let scale : ℚ := (2 : ℚ) ^ ((bitsOf p 31 27 : Int) - 15)
  ((bitsOf p 8 0 : ℚ) / 512 * scale, (bitsOf p 17 9 : ℚ) / 512 * scale, (bitsOf p 26 18 : ℚ) / 512 * scale)

/-! ## Pixel format names -/

/-- Channels of a format name (45_channel_formats.md R515 to R517). -/
inductive Channel where
  | red
  | green
  | blue
  | alpha
  | intensity
  | luminance
  | unused
deriving DecidableEq, Repr

/-- Types of a format name (45_channel_formats.md R501 to R506). -/
inductive ChannelType where
  | unorm
  | snorm
  | uint
  | uscaled
  | sint
  | sscaled
  | float
  | unormSrgb
deriving DecidableEq, Repr

/-- A format name, token by token (45_channel_formats.md R515). -/
inductive NameToken where
  | channel (c : Channel) (bits : Nat)
  | type (t : ChannelType)
deriving DecidableEq, Repr

/-- Where a channel lies in a pixel and how it is read. -/
structure ChannelField where
  channel : Channel
  offset : Nat
  bits : Nat
  type : ChannelType
deriving DecidableEq, Repr

/-- "the next type token to its right" (45_channel_formats.md R515). -/
def nextType : List NameToken → Option ChannelType
  | [] => none
  | .type t :: _ => some t
  | .channel _ _ :: rest => nextType rest

/-- The channels of a name from a bit offset on: least significant channel first (45_channel_formats.md R515). -/
def layoutFrom (offset : Nat) : List NameToken → List ChannelField
  | [] => []
  | .type _ :: rest => layoutFrom offset rest
  | .channel c k :: rest =>
      match nextType rest with
      | some t => ⟨c, offset, k, t⟩ :: layoutFrom (offset + k) rest
      | none => layoutFrom (offset + k) rest

/-- Decoding a format name (45_channel_formats.md R515). -/
def formatLayout (name : List NameToken) : List ChannelField := layoutFrom 0 name

/-- The value of one channel. -/
inductive ChannelValue where
  | real (v : ℚ)
  | integer (v : Int)
  | float (v : FloatValue)
deriving DecidableEq, Repr

/-- The type an alpha channel is read as. R502 does not say which channels the gamma conversion applies to; the spec reads it
as leaving the alpha of BC7 linear (47_bc4_bc7.md R645), and the model leaves an alpha channel of every sRGB name so
(45_channel_formats.md R502; DEDUCED, log entry 40). -/
def ChannelType.ofAlpha : ChannelType → ChannelType
  | .unormSrgb => .unorm
  | .unorm => .unorm
  | .snorm => .snorm
  | .uint => .uint
  | .uscaled => .uscaled
  | .sint => .sint
  | .sscaled => .sscaled
  | .float => .float

/-- The type a channel of a name is read as. In an sRGB name the gamma conversion applies to red, green and blue, to
luminance and intensity (and so to the colours and the alpha they are replicated to) and to unused channels, and not to a
channel named alpha: R502 leaves open which (45_channel_formats.md R502, R516, R517; DESIGN CHOICE, log entry 40). -/
def ChannelField.readType (c : ChannelField) : ChannelType :=
  match c.channel with
  | .alpha => c.type.ofAlpha
  | .red | .green | .blue | .intensity | .luminance | .unused => c.type

/-- Read `n` bits as a channel type. Floats exist in the widths of R507 to R512. -/
def channelValue (t : ChannelType) (n u : Nat) : Option ChannelValue :=
  match t with
  | .unorm => some (.real (unorm n u))
  | .snorm => some (.real (snorm n u))
  | .uint => some (.integer (uint u))
  | .uscaled => some (.real (uscaled u))
  | .sint => some (.integer (sint n u))
  | .sscaled => some (.real (sscaled n u))
  | .unormSrgb => some (.real (Config.srgbToLinear (unorm n u)))
  | .float =>
      if n = 64 then some (.float (float64 (BitVec.ofNat 64 u)))
      else if n = 32 then some (.float (float32 (BitVec.ofNat 32 u)))
      else if n = 16 then some (.float (float16 (BitVec.ofNat 16 u)))
      else if n = 11 then some (.float (float11 (BitVec.ofNat 11 u)))
      else if n = 10 then some (.float (float10 (BitVec.ofNat 10 u)))
      else none

/-- The channels of a pixel, a little-endian number (45_channel_formats.md R515). -/
def readPixel (name : List NameToken) (pixel : Nat) : List (Channel × Option ChannelValue) :=
  (formatLayout name).map fun c => (c.channel, channelValue c.readType c.bits ((pixel >>> c.offset) % 2 ^ c.bits))

/-- A texel of channel values. -/
structure Texel where
  red : ChannelValue
  green : ChannelValue
  blue : ChannelValue
  alpha : ChannelValue
deriving DecidableEq, Repr

/-- The value of a channel among those read. -/
def channelOf (c : Channel) : List (Channel × Option ChannelValue) → Option ChannelValue
  | [] => none
  | (d, v) :: rest => if d = c then v else channelOf c rest

/-- The texel a sampler sees: red, green, blue, alpha. -/
structure Rgba where
  red : ℚ
  green : ℚ
  blue : ℚ
  alpha : ℚ
deriving DecidableEq, Repr

/-- "the intensity value is replicated to all four channels (R,G,B,A)" (45_channel_formats.md R516). -/
def intensityTexel (v : ChannelValue) : Texel := ⟨v, v, v, v⟩

/-- "the luminance value is replicated to the three color channels"; alpha is another field or a default, a free value
(45_channel_formats.md R517; log entry 38). -/
def luminanceTexel (v : ChannelValue) (alpha : Option ChannelValue) : Texel :=
  ⟨v, v, v, alpha.getD (.real Config.luminanceDefaultAlpha)⟩

/-- What the sampling engine sees of a pixel of an intensity or luminance format; none for other names, which replicate
nothing (45_channel_formats.md R516, R517). -/
def replicatedTexel (name : List NameToken) (pixel : Nat) : Option Texel :=
  let channels := readPixel name pixel
  match channelOf .intensity channels with
  | some v => some (intensityTexel v)
  | none =>
      match channelOf .luminance channels with
      | some v => some (luminanceTexel v (channelOf .alpha channels))
      | none => none

/-- "Intensity surfaces are not supported as destinations", nor luminance surfaces (45_channel_formats.md R516, R517). -/
def destinationLegal (name : List NameToken) : Bool :=
  (formatLayout name).all fun c => decide (c.channel ≠ .intensity) && decide (c.channel ≠ .luminance)

/-- Texel `x` of a row of R1_UNORM, R1_UINT or MONO8 texels, T0 in bit 0 of the first byte
(45_channel_formats.md R518). -/
def r1Texel (row : List Byte) (x : Nat) : Bool := (row.getD (x / 8) 0).getLsbD (x % 8)

/-- The three formats of one bit per texel: "MONO8 format is identical to R1_UNORM but has different semantics for
filtering" (45_channel_formats.md R518). -/
inductive OneBitFormat where
  | r1Unorm
  | r1Uint
  | mono8
deriving DecidableEq, Repr

/-- The 1-bit value as the format reads it (45_channel_formats.md R501, R504, R518). -/
def OneBitFormat.value (f : OneBitFormat) (bit : Bool) : ChannelValue :=
  match f with
  | .r1Unorm => .real (unorm 1 bit.toNat)
  | .r1Uint => .integer (uint bit.toNat)
  | .mono8 => .real (unorm 1 bit.toNat)

/-- "this (unsigned) 1-bit value is replicated to all color channels" (45_channel_formats.md R518). It is called an
Intensity value there, so alpha is among them (DEDUCED from R516, log entry 38). -/
def oneBitTexel (f : OneBitFormat) (row : List Byte) (x : Nat) : Texel := intensityTexel (f.value (r1Texel row x))

/-! ## Palette formats -/

/-- A palette entry: the layout in the palette is not in the source, so it is given decoded
(45_channel_formats.md R530). -/
abbrev Palette := Nat → Rgba

/-- A nibble replicated to both halves of a byte, over 255 (45_channel_formats.md R531). -/
def nibbleAlpha (a : Nat) : ℚ := ((a * 16 + a : Nat) : ℚ) / 255

/-- Colour from the palette, alpha from the texel (45_channel_formats.md R531 to R534). -/
def paletteColor (palette : Palette) (index : Nat) (alpha : ℚ) : Rgba :=
  ⟨(palette index).red, (palette index).green, (palette index).blue, alpha⟩

/-- P4A4_UNORM (45_channel_formats.md R531). -/
def p4a4 (palette : Palette) (t : BitVec 8) : Rgba := paletteColor palette (bitsOf t 3 0) (nibbleAlpha (bitsOf t 7 4))

/-- A4P4_UNORM (45_channel_formats.md R532). -/
def a4p4 (palette : Palette) (t : BitVec 8) : Rgba := paletteColor palette (bitsOf t 7 4) (nibbleAlpha (bitsOf t 3 0))

/-- P8A8_UNORM (45_channel_formats.md R533). -/
def p8a8 (palette : Palette) (t : BitVec 16) : Rgba := paletteColor palette (bitsOf t 7 0) ((bitsOf t 15 8 : ℚ) / 255)

/-- A8P8_UNORM (45_channel_formats.md R534). -/
def a8p8 (palette : Palette) (t : BitVec 16) : Rgba := paletteColor palette (bitsOf t 15 8) ((bitsOf t 7 0 : ℚ) / 255)

/-- P8_UNORM: the entry with its alpha (45_channel_formats.md R535). -/
def p8 (palette : Palette) (t : BitVec 8) : Rgba := palette t.toNat

/-- P2_UNORM, the texel already taken from its byte: the packing is not in the source (45_channel_formats.md R536). -/
def p2 (palette : Palette) (t : BitVec 2) : Rgba := palette t.toNat

/-! ## Video formats -/

/-- The four packed YUV 4:2:2 formats (45_channel_formats.md R540). -/
inductive PackedYuv where
  | normal
  | swapUvy
  | swapUv
  | swapY
deriving DecidableEq, Repr

/-- One pixel: Y maps to green, Cb (U) to blue, Cr (V) to red (45_channel_formats.md R540). -/
structure Yuv where
  y : Byte
  u : Byte
  v : Byte
deriving DecidableEq, Repr

/-- Red, green and blue of a pixel, each a byte. -/
structure RgbBytes where
  red : Byte
  green : Byte
  blue : Byte
deriving DecidableEq, Repr

/-- "The channels are mapped as follows": Cr (V) to red, Y to green, Cb (U) to blue (45_channel_formats.md R540). -/
def Yuv.channels (p : Yuv) : RgbBytes := ⟨p.v, p.y, p.u⟩

/-- The two pixels of a DWord whose bytes are given (45_channel_formats.md R540). -/
def packedYuv (f : PackedYuv) (b0 b1 b2 b3 : Byte) : Yuv × Yuv :=
  match f with
  | .normal => (⟨b0, b1, b3⟩, ⟨b2, b1, b3⟩)
  | .swapUvy => (⟨b1, b2, b0⟩, ⟨b3, b2, b0⟩)
  | .swapUv => (⟨b0, b3, b1⟩, ⟨b2, b3, b1⟩)
  | .swapY => (⟨b1, b0, b2⟩, ⟨b3, b0, b2⟩)

/-- A row of the table of additional video formats: the surface formats a DirectX YUV format is viewed with
(45_channel_formats.md R542). -/
structure VideoView where
  dxName : String
  surfaceFormat1 : String
  surfaceFormat2 : Option String
  chromaDivisor : Nat
deriving DecidableEq, Repr

/-- The named rows of the table, in source order (45_channel_formats.md R542): packed rows have one surface. -/
def videoViews : List VideoView :=
  [⟨"AYUV", "R8G8B8A8_UNORM", none, 1⟩, ⟨"AYUV", "R8G8B8A8_UINT", none, 1⟩,
   ⟨"YUY2", "R8G8B8A8_UNORM", none, 1⟩, ⟨"YUY2", "R8G8B8A8_UINT", none, 1⟩,
   ⟨"YUY2", "R8G8B8A8_UNORM", none, 1⟩,
   ⟨"NV12", "R8_UNORM", some "R8G8_UNORM", 2⟩, ⟨"NV12", "R8_UINT", some "R8G8_UINT", 2⟩,
   ⟨"NV11", "R8_UNORM", some "R8G8_UNORM", 4⟩, ⟨"NV11", "R8_UINT", some "R8G8_UINT", 4⟩,
   ⟨"P016", "R16_UNORM", some "R16G16_UNORM", 2⟩, ⟨"P016", "R16_UINT", some "R16G16_UINT", 2⟩,
   ⟨"P010", "R16_UNORM", some "R16G16_UNORM", 2⟩, ⟨"P010", "R16_UINT", some "R16G16_UINT", 2⟩,
   ⟨"Y216", "R16G16B16A16_UNORM", none, 1⟩, ⟨"Y216", "R16G16B16A16_UINT", none, 1⟩,
   ⟨"Y210", "R16G16B16A16_UNORM", none, 1⟩, ⟨"Y210", "R16G16B16A16_UINT", none, 1⟩,
   ⟨"Y416", "R16G16B16A16_UNORM", none, 1⟩, ⟨"Y416", "R16G16B16A16_UINT", none, 1⟩,
   ⟨"Y410", "R16G16B16A16_UNORM", none, 1⟩, ⟨"Y410", "R16G16B16A16_UINT", none, 1⟩]

/-- A RAW surface is addressed by byte offsets that are multiples of 4 (45_channel_formats.md R543). -/
def rawOffsetAligned (o : Nat) : Bool := decide (o % 4 = 0)

/-- Surface types, as far as RAW tells them apart (45_channel_formats.md R543). -/
inductive SurfaceType where
  | buffer
  | strbuf
  | other
deriving DecidableEq, Repr

/-- Data port messages, as far as RAW tells them apart (45_channel_formats.md R543). -/
inductive DataPortMessage where
  | untypedRead
  | untypedWrite
  | atomicOperation
  | other
deriving DecidableEq, Repr

/-- RAW "is only supported with the untyped surface read/write and atomic operation data port messages" and "can be applied
only to surface types of BUFFER and STRBUF" (45_channel_formats.md R543). -/
def rawLegal (t : SurfaceType) (m : DataPortMessage) : Bool :=
  decide (t ≠ .other) && decide (m ≠ .other)

/-! ## Depth and stencil -/

/-- D32_FLOAT_S8X24_UINT: depth and stencil (45_channel_formats.md R544). -/
def d32FloatS8x24 (q : BitVec 64) : FloatValue × Nat := (float32 (BitVec.ofNat 32 (bitsOf q 31 0)), bitsOf q 39 32)

/-- D32_FLOAT (45_channel_formats.md R544). -/
def d32Float (d : BitVec 32) : FloatValue := float32 d

/-- D24_UNORM_S8_UINT: depth and stencil (45_channel_formats.md R544). -/
def d24UnormS8 (d : BitVec 32) : ℚ × Nat := (unorm 24 (bitsOf d 23 0), bitsOf d 31 24)

/-- D16_UNORM (45_channel_formats.md R544). -/
def d16Unorm (w : BitVec 16) : ℚ := unorm 16 w.toNat

/-- S8_UINT of the separate stencil buffer (45_channel_formats.md R545). -/
def s8Uint (b : BitVec 8) : Nat := b.toNat

/-- A Tile Walk direction, by number: which directions there are is not in the source. -/
abbrev TileWalk := Nat

/-- A color or depth buffer as the rules of a pair see it: `walk` is none where it is linear. -/
structure PairBuffer where
  pitch : Nat
  base : Nat
  walk : Option TileWalk
deriving DecidableEq, Repr

/-- A linear color buffer and a linear depth buffer may be used together: pitches multiples of 32, the buffers "co-aligned
with a 32-byte region" (45_channel_formats.md R546), which the model takes as base addresses equal modulo 32
(DESIGN CHOICE, log entry 51). -/
def linearPairLegal (colorPitch depthPitch colorBase depthBase : Nat) : Bool :=
  decide (colorPitch % 32 = 0) && decide (depthPitch % 32 = 0) && decide (colorBase % 32 = depthBase % 32)

/-- A color buffer and a depth buffer may be used together: "When both the Depth and Color Buffers are tiled, the respective
Tile Walk directions must match"; two linear buffers as above; of one tiled and one linear buffer nothing is said
(45_channel_formats.md R546). -/
def pairLegal (color depth : PairBuffer) : Bool :=
  match color.walk, depth.walk with
  | some c, some d => decide (c = d)
  | none, none => linearPairLegal color.pitch depth.pitch color.base depth.base
  | some _, none => true
  | none, some _ => true

end Sys2Proof.Formats
end

