-- ==== Sys2Proof/Machine/SurfaceAccess.lean ====
section
/-! DEFINITION. Accesses to surfaces by the sampling engine and the data port: the whole extended surface is read through
graphics memory, an unmapped page is a GTT error, and what is read from padding is never returned
(48_surface_layout.md R700 to R707). No command of the model makes such an access: an event does (log entry 47). -/

namespace Sys2Proof.Surface

/-- Bytes of a surface that follow each other: where they begin, from its base, and how many they are. -/
structure Span where
  offset : Nat
  bytes : Nat
deriving DecidableEq, Repr

/-! ## Images -/

/-- One sample, or a number of samples that the table lists (48_surface_layout.md R666). -/
def Image.samplesGiven (i : Image) : Bool := decide (i.samples = 1) || (multisampleSize i.samples 1 1).isSome

/-- W_L and H_L of LOD `l`, with interleaved samples; those of a number of samples that the table does not list are not
used, since the access is refused (48_surface_layout.md R665, R666; `layoutGiven`). -/
def Image.texels (i : Image) (l : Nat) : Extent :=
  match multisampleSize i.samples (mipSize i.width l) (mipSize i.height l) with
  | some (w, h) => ⟨w, h⟩
  | none => ⟨mipSize i.width l, mipSize i.height l⟩

/-- w_L and h_L of LOD `l` (48_surface_layout.md R668). -/
def Image.padded (i : Image) (l : Nat) : Extent := paddedSize i.kind.unit (i.texels l).x (i.texels l).y

/-- The image is an array of slices: a cube surface is stored as one (48_surface_layout.md R677, R683, R684). -/
def Image.isArray (i : Image) : Bool :=
  match i.stacking with
  | .array n _ => decide (1 < n)
  | .cube _ _ => true
  | .volume _ => false

/-- The mip layout in force; none for MIPLAYOUT_LEGACY (48_surface_layout.md R671, R677). A 1D surface is no image: `Line`
and `offset1d` hold it (log entry 47). -/
def Image.layout (i : Image) : Option MipLayout :=
  match i.mode.effective i.isArray false with
  | .layout m => some m
  | .legacy => none

/-- Slices of an array or cube surface, planes of LOD `l` of a volume (48_surface_layout.md R678, R684, R685). -/
def Image.maps (i : Image) (l : Nat) : Nat :=
  match i.stacking with
  | .array n _ => n
  | .cube n _ => 6 * n
  | .volume d => mipSize d l

/-- Which QPitch equation holds (48_surface_layout.md R678). -/
def Image.formatClass (i : Image) : FormatClass :=
  if i.format.compressed then .compressed
  else
    match i.kind with
    | .stencil => .separateStencil
    | .depthD16 => .uncompressed
    | .depthOther => .uncompressed
    | .blockCompressed => .uncompressed
    | .fxt1 => .uncompressed
    | .surfaceState _ _ => .uncompressed

/-- The distance of two slices in memory rows; a volume has none (48_surface_layout.md R678). -/
def Image.sliceDistance (i : Image) : Option Nat :=
  let q (s : ArraySpacing) :=
    qpitch i.formatClass (i.kind.spacing s) (i.padded 0).y (i.padded 1).y i.kind.unit.j
  match i.stacking with
  | .array n s => if n ≤ 1 then some 0 else q s
  | .cube _ s => q s
  | .volume _ => some 0

/-- The layout is one the source gives: not a separate stencil buffer, whose texels are placed by a tiling of another
volume (48_surface_layout.md R664, R668); a number of samples the table lists (R666); kind and format of one row of the
table of alignment units (R672); not MIPLAYOUT_LEGACY, whose form is not there (R671), but for a volume, whose planes
stand where R685 and R686 say whatever the mode; a cube of square faces (R682); a volume of one sample, since R666 enlarges
the texels and R685 and R686 place the planes by the width and height without it. What breaks one of these is refused.
Nothing else is looked at: a LOD that starts on an odd row against R664 (`mipStartLegal`, an odd vertical alignment field)
and a pitch below the minimum of R671 (`minimumPitch`) have no consequence in the source, and the surface is accessed where
the equations put it (DESIGN CHOICE, log entry 47). -/
def Image.layoutGiven (i : Image) : Bool :=
  i.sliceDistance.isSome && decide (i.kind ≠ .stencil) && i.samplesGiven && i.kind.agrees i.format &&
    match i.stacking with
    | .array _ _ => i.layout.isSome
    | .cube _ _ => i.layout.isSome && cubeFaceLegal i.width i.height
    | .volume _ => decide (i.samples = 1)

/-- The origin of LOD `l` in slice or plane `k`, in texels, without the rows of the slice
(48_surface_layout.md R669, R670, R686). -/
def Image.origin (i : Image) (l k : Nat) : Extent :=
  match i.stacking with
  | .array _ _ => lodOrigin (i.layout.getD .below) i.padded l
  | .cube _ _ => lodOrigin (i.layout.getD .below) i.padded l
  | .volume d => volumeOrigin i.kind.unit i.width i.height d l k

/-- The memory rows before slice `k` (48_surface_layout.md R678). -/
def Image.rowsBefore (i : Image) (k : Nat) : Nat := sliceRow k (i.sliceDistance.getD 0)

/-- The texels of LOD `l` that are read: for the sampling engine those of the extended surface, for the data port W_L by H_L
(48_surface_layout.md R701, R706). R701 speaks of "the surface" and not of a mip chain, an array or a volume: each map is
extended to its own alignment units from its own origin, and rows and columns that no map reaches are not read but for the
rows of `paddingSpans` (DESIGN CHOICE, log entry 47). -/
def Image.extendedTexels (i : Image) (r : Reader) (l : Nat) : Extent :=
  match r with
  | .samplingEngine => extended i.kind.unit (i.texels l).x (i.texels l).y
  | .dataPort _ => i.texels l

/-- The first memory row of a map, and the row after its last. -/
def Image.memoryRows (i : Image) (r : Reader) (l k : Nat) : Nat × Nat :=
  (i.rowsBefore k + (i.origin l k).y / i.format.block.height,
    i.rowsBefore k + ceilDiv ((i.origin l k).y + (i.extendedTexels r l).y) i.format.block.height)

/-- The first byte of a map in its memory rows, and how many it takes in each (48_surface_layout.md R674, R701). -/
def Image.memoryColumns (i : Image) (r : Reader) (l k : Nat) : Nat × Nat :=
  ((i.origin l k).x / i.format.block.width * i.format.block.bytes,
    ceilDiv (i.extendedTexels r l).x i.format.block.width * i.format.block.bytes)

/-- The bytes of one map: a span for each memory row (48_surface_layout.md R674, R701). -/
def Image.mapSpans (i : Image) (r : Reader) (l k : Nat) : List Span :=
  let rows := i.memoryRows r l k
  (List.range' rows.1 (rows.2 - rows.1)).map fun m =>
    ⟨m * i.pitch + (i.memoryColumns r l k).1, (i.memoryColumns r l k).2⟩

/-- LODs and slices or planes of an image. -/
def Image.mapList (i : Image) : List (Nat × Nat) :=
  (List.range i.lods).flatMap fun l => (List.range (i.maps l)).map fun k => (l, k)

/-- The memory row below the lowest map. -/
def Image.bottom (i : Image) (r : Reader) : Nat :=
  (i.mapList.map fun p => (i.memoryRows r p.1 p.2).2).foldl max 0

/-- The bytes of a memory row up to the end of the map that reaches furthest right. -/
def Image.rowBytes (i : Image) (r : Reader) : Nat :=
  (i.mapList.map fun p => (i.memoryColumns r p.1 p.2).1 + (i.memoryColumns r p.1 p.2).2).foldl max 0

/-- The memory row below the padded surface. For the sampling engine the bottom of a compressed surface is padded "to an
even compressed row, which is equal to a multiple of 8 uncompressed texel rows" (48_surface_layout.md R704); for the data
port "a final row below the surface" makes its rows even, or in field mode the height a multiple of 4 (R706). Both are
rules on the whole surface: its lowest map counts (DESIGN CHOICE, log entry 47). -/
def Image.paddedBottom (i : Image) (r : Reader) : Nat :=
  let texelRows := i.bottom r * i.format.block.height
  let padded := match r with
    | .samplingEngine => if i.format.compressed then (compressedExtended i.kind.unit 0 texelRows).y else texelRows
    | .dataPort fieldMode => renderTargetRows texelRows fieldMode
  ceilDiv padded i.format.block.height

/-- The padding rows below the lowest map, as wide as the surface (48_surface_layout.md R704, R706; log entry 47). -/
def Image.paddingSpans (i : Image) (r : Reader) : List Span :=
  (List.range' (i.bottom r) (i.paddedBottom r - i.bottom r)).map fun m => ⟨m * i.pitch, i.rowBytes r⟩

/-- YUV, 96 bpt and 48 bpt formats: "an extra row plus 16 bytes of padding" (48_surface_layout.md R705). -/
def LayoutFormat.extraPadding : LayoutFormat → Bool
  | .yuv422 => true
  | .whole n => decide (n = 12) || decide (n = 6)
  | .dxt1 | .dxt1Rgb | .dxt2 | .dxt3 | .dxt4 | .dxt5 | .fxt1 | .bc4 | .bc5 | .bc6h | .bc7 | .fourBit => false

/-- Padding of a sampling engine surface "in addition to the general padding requirements", below the rows of R704: two
rows of a cube surface, a row and 16 bytes for some formats (48_surface_layout.md R703, R705). -/
def Image.bottomSpan (i : Image) (r : Reader) : List Span :=
  let cubeRows := match i.stacking with
    | .array _ _ => 0
    | .cube _ _ => 2
    | .volume _ => 0
  match r with
  | .samplingEngine =>
      if i.format.extraPadding then [⟨i.paddedBottom r * i.pitch, (cubeRows + 1) * i.pitch + 16⟩]
      else [⟨i.paddedBottom r * i.pitch, cubeRows * i.pitch⟩]
  | .dataPort _ => []

/-! ## Surfaces -/

/-- A structured buffer is laid out as R662 says: "must be defined with Surface Format RAW", its structures "a predefined
number of DWords in size" (48_surface_layout.md R662). Another is refused (DESIGN CHOICE, log entry 47). -/
def structuredGiven (pitch : Nat) (raw : Bool) : Bool := raw && decide (pitch % 4 = 0)

/-- The bytes of a buffer of `n` structures: with the padding of R702 for the sampling engine, without it for the data port
(48_surface_layout.md R661, R702; log entry 47). -/
def bufferSpan (r : Reader) (n pitch : Nat) : Span :=
  match r with
  | .samplingEngine => ⟨0, bufferPaddedBytes n pitch⟩
  | .dataPort _ => ⟨0, n * pitch⟩

/-- The bytes of the extended surface, none where the layout is not in the source (48_surface_layout.md R701 to R707). A
1D surface is padded to its alignment (R663, R701). DESIGN CHOICE (log entry 47): R702 names no reader, and the padding of
a buffer is read by the sampling engine and not by the data port; a 1D surface, whose pitch is ignored so that no row
below it is given, has neither the extra row and 16 bytes of R705 nor the final row of R706. -/
def Shape.spans (r : Reader) : Shape → Option (List Span)
  | .buffer n pitch => some [bufferSpan r n pitch]
  | .structured n pitch raw => if structuredGiven pitch raw then some [bufferSpan r n pitch] else none
  | .line l =>
      some ((List.range l.slices).flatMap fun k => (List.range l.lods).map fun m =>
        ⟨offset1d l.width l.alignment l.qpitch l.bytesPerPixel m 0 k,
          (match r with
            | .samplingEngine => lodWidth1d l.width l.alignment m
            | .dataPort _ => mipSize l.width m) * l.bytesPerPixel⟩)
  | .image i =>
      if i.layoutGiven then some (i.mapList.flatMap (fun p => i.mapSpans r p.1 p.2) ++ i.paddingSpans r ++ i.bottomSpan r)
      else none

/-- What is asked for lies in the surface: padding texels "are never returned" (48_surface_layout.md R676, R700, R706). The
first coordinate of a structured buffer is an index of its array, the second "is assumed to be bounded only by the Surface
Pitch" (R662). -/
def Shape.inside : Shape → Coordinate → Bool
  | .buffer n pitch, .element k off b =>
      decide (k < n) && bufferAccessLegal pitch off && decide (off + b ≤ pitch)
  | .buffer n pitch, .raw off => decide (off + 4 ≤ n * pitch)
  | .structured n pitch _, .dword u v => decide (u < n) && structuredAccessLegal pitch v
  | .line l, .pixel k m u => decide (k < l.slices) && decide (m < l.lods) && decide (u < mipSize l.width m)
  | .image i, .texel k l u v =>
      decide (l < i.lods) && decide (k < i.maps l) && decide (u < (i.texels l).x) && decide (v < (i.texels l).y)
  | .buffer _ _, .dword _ _ => false
  | .buffer _ _, .pixel _ _ _ => false
  | .buffer _ _, .texel _ _ _ _ => false
  | .structured _ _ _, .element _ _ _ => false
  | .structured _ _ _, .raw _ => false
  | .structured _ _ _, .pixel _ _ _ => false
  | .structured _ _ _, .texel _ _ _ _ => false
  | .line _, .element _ _ _ => false
  | .line _, .raw _ => false
  | .line _, .dword _ _ => false
  | .line _, .texel _ _ _ _ => false
  | .image _, .element _ _ _ => false
  | .image _, .raw _ => false
  | .image _, .dword _ _ => false
  | .image _, .pixel _ _ _ => false

/-- Where the element that holds what is asked for lies: bytes of a structure, a DWord, a pixel, or the block of a texel
(48_surface_layout.md R661 to R663, R674, R678; 45_channel_formats.md R543); no bytes where the coordinate is none of the
surface's. -/
def Shape.elementSpan : Shape → Coordinate → Span
  | .buffer _ pitch, .element k off b => ⟨bufferAddress 0 pitch k off, b⟩
  | .buffer _ _, .raw off => ⟨off, 4⟩
  | .structured _ pitch _, .dword u v => ⟨structuredAddress 0 pitch u v, 4⟩
  | .line l, .pixel k m u => ⟨offset1d l.width l.alignment l.qpitch l.bytesPerPixel m u k, l.bytesPerPixel⟩
  | .image i, .texel k l u v =>
      ⟨sliceAddress i.format.block 0 i.pitch (i.rowsBefore k) 1 (i.origin l k) u v, i.format.block.bytes⟩
  | .buffer _ _, .dword _ _ => ⟨0, 0⟩
  | .buffer _ _, .pixel _ _ _ => ⟨0, 0⟩
  | .buffer _ _, .texel _ _ _ _ => ⟨0, 0⟩
  | .structured _ _ _, .element _ _ _ => ⟨0, 0⟩
  | .structured _ _ _, .raw _ => ⟨0, 0⟩
  | .structured _ _ _, .pixel _ _ _ => ⟨0, 0⟩
  | .structured _ _ _, .texel _ _ _ _ => ⟨0, 0⟩
  | .line _, .element _ _ _ => ⟨0, 0⟩
  | .line _, .raw _ => ⟨0, 0⟩
  | .line _, .dword _ _ => ⟨0, 0⟩
  | .line _, .texel _ _ _ _ => ⟨0, 0⟩
  | .image _, .element _ _ _ => ⟨0, 0⟩
  | .image _, .raw _ => ⟨0, 0⟩
  | .image _, .dword _ _ => ⟨0, 0⟩
  | .image _, .pixel _ _ _ => ⟨0, 0⟩

/-- Column and row of the texel in its block (48_surface_layout.md R676). -/
def Shape.placeInBlock : Shape → Coordinate → Extent
  | .image i, .texel _ _ u v => ⟨u % i.format.block.width, v % i.format.block.height⟩
  | .image _, .element _ _ _ => ⟨0, 0⟩
  | .image _, .raw _ => ⟨0, 0⟩
  | .image _, .dword _ _ => ⟨0, 0⟩
  | .image _, .pixel _ _ _ => ⟨0, 0⟩
  | .buffer _ _, _ => ⟨0, 0⟩
  | .structured _ _ _, _ => ⟨0, 0⟩
  | .line _, _ => ⟨0, 0⟩

/-- BUFFER and STRBUF, the surface types RAW "can be applied only to" (45_channel_formats.md R543). -/
def Shape.surfaceType : Shape → Formats.SurfaceType
  | .buffer _ _ => .buffer
  | .structured _ _ _ => .strbuf
  | .line _ => .other
  | .image _ => .other

/-- The message of a read of RAW: the data port's untyped read; the sampling engine sends none
(45_channel_formats.md R543). -/
def Reader.rawMessage : Reader → Formats.DataPortMessage
  | .samplingEngine => .other
  | .dataPort _ => .untypedRead

/-- The byte offset of a DWord of a RAW surface, which "must be DWord aligned"; none for what is no RAW access
(45_channel_formats.md R543; 48_surface_layout.md R662). -/
def Coordinate.rawOffset : Coordinate → Option Nat
  | .raw off => some off
  | .dword _ v => some v
  | .element _ _ _ => none
  | .pixel _ _ _ => none
  | .texel _ _ _ _ => none

/-- Why an access is refused: a RAW access on another surface type or with another message than 45_channel_formats.md R543
allows, a RAW offset that is no multiple of 4 (R543, 48_surface_layout.md R662, 20_memory.md R102). -/
def Access.rawRefusal (a : Access) : Option Machine.Refusal :=
  match a.coordinate.rawOffset with
  | none => none
  | some off =>
      if Formats.rawLegal a.shape.surfaceType a.reader.rawMessage then
        if Formats.rawOffsetAligned off then none else some .misaligned
      else some .surfaceLayoutNotInSource

/-- All that an access reads: the extended surface, and in it the element asked for (48_surface_layout.md R707); none for an
access that is refused. -/
def Access.touched (a : Access) : Option (List Span) :=
  match a.rawRefusal with
  | some _ => none
  | none => (a.shape.spans a.reader).map fun l =>
      if a.shape.inside a.coordinate then l ++ [a.shape.elementSpan a.coordinate] else l

/-- An element as it is read: "a block's bytes are little-endian" (48_surface_layout.md R676), a DWord too (20_memory.md
R100), and the place of the texel in it. "Data is returned in DWord quantities" of a RAW surface (45_channel_formats.md
R543): `bits` is then one DWord. -/
structure Element where
  bits : Nat
  place : Extent
deriving DecidableEq, Repr

end Sys2Proof.Surface

namespace Sys2Proof.Machine

/-- The bytes of a span: a GTT error where a page is not mapped (20_memory.md R98, 60_exceptions.md R765). A span that
runs past 2^32 is refused, as base plus offset is (the spec's decision D14; log entry 47). -/
def State.readSpan (s : State) (base : GraphicsAddress) (p : Surface.Span) : Host.Outcome (List Byte) Fault Refusal :=
  if base.toNat + p.offset + p.bytes ≤ 4294967296 then
    match (s.tableById s.unitTable).plan (BitVec.ofNat 32 (base.toNat + p.offset)) p.bytes with
    | .error b => .fault (.gttError b)
    | .ok pas => .next (pas.map (readPhys s.phys))
  else .refused .addressOverflow

/-- Read spans one after another, keeping nothing. -/
def State.touchSpans (s : State) (base : GraphicsAddress) : List Surface.Span → Host.Outcome Unit Fault Refusal
  | [] => .next ()
  | p :: rest =>
      match s.readSpan base p with
      | .fault f => .fault f
      | .refused r => .refused r
      | .next _ => s.touchSpans base rest

/-- A surface access: the whole extended surface is read, and the element asked for is the answer where it lies in the
surface (48_surface_layout.md R700, R706, R707). The source gives no consequence of a surface larger than the 2 GB of
R660: the access is performed (DESIGN CHOICE, log entry 47). -/
def State.surfaceAccess (s : State) (a : Surface.Access) : Host.Outcome (Option Surface.Element) Fault Refusal :=
  match a.touched with
  | none => .refused (a.rawRefusal.getD .surfaceLayoutNotInSource)
  | some l =>
      match s.touchSpans a.base l with
      | .fault f => .fault f
      | .refused r => .refused r
      | .next _ =>
          if a.shape.inside a.coordinate then
            match s.readSpan a.base (a.shape.elementSpan a.coordinate) with
            | .fault f => .fault f
            | .refused r => .refused r
            | .next bs => .next (some ⟨natOfBytes bs, a.shape.placeInBlock a.coordinate⟩)
          else .next none

end Sys2Proof.Machine
end

