-- ==== Sys2Proof/Machine/HostEvents.lean ====
section
/-! DEFINITION. What the other agents do to the machine between commands (70_reset_and_hazards.md R835, 10_state.md R32,
60_exceptions.md R762). -/

namespace Sys2Proof.Machine

/-- `HostWriteMem(space, a, n, v)`: stops where it touches a live ring range (70_reset_and_hazards.md R835). "host access to
the scratch pages and the reserved status-page DWords is outside the model" (the spec's decision D5): the event does not
look whether it makes one (log entry 49). -/
def State.hostWriteMem (s : State) (sp : Space) (a : Nat) (bytes : List Byte) : Result :=
  match sp with
  | .phys => s.commit (List.range' a bytes.length) bytes
  | .gfx i => s.storeGfx i (BitVec.ofNat 32 a) bytes

/-- `HostReadMem`: observes, no effect (70_reset_and_hazards.md R835); an unmapped page is a GTT error
(20_memory.md R98). -/
def State.hostReadMem (s : State) (sp : Space) (a n : Nat) : Result :=
  match sp with
  | .phys => .next s
  | .gfx i =>
      match (s.tableById i).plan (BitVec.ofNat 32 a) n with
      | .error b => .fault (.gttError b)
      | .ok _ => .next s

/-- The alignment of 10_state.md R41: a 4 KB start, pointers to DWords. R41 asks none of the length. -/
def ringAligned (start : GraphicsAddress) (head tail : Nat) : Bool :=
  decide (start.toNat % Config.pageSize = 0) && decide (head % 4 = 0) && decide (tail % 4 = 0)

/-- "The length of any one ring buffer is limited to 2MB" (10_state.md R41). -/
def ringLengthLegal (length : Nat) : Bool := decide (length ≤ Config.maxRingLength)

/-- `HostProgramRing(engine, start, length, head, tail)`: sets the ring and makes it valid
(70_reset_and_hazards.md R802, R835); the VCS DMA copies head and tail (10_state.md R48). The length is any number of bytes
up to the 2 MB of R41, 0 among them, head and tail any multiples of 4: nothing asks that they lie below the length. A
length above 2 MB, and a start, head or tail off its alignment, are refused (20_memory.md R102; log entry 20). -/
def State.hostProgramRing (s : State) (e : Engine) (start : GraphicsAddress) (length head tail : Nat) : Result :=
  if ringAligned start head tail then
    if ringLengthLegal length then
      .next ((s.setParser e { s.parser e with ring := ⟨start, length, head, tail, true⟩ }).dmaProgram e head tail)
    else .refused .ringParametersIllegal
  else .refused .misaligned

/-- `HostWriteTail(engine, tail)`: `Ring.Tail <- tail`, which exposes new commands (70_reset_and_hazards.md R835); the VCS
DMA copies the tail (10_state.md R48). The tail is "a multiple of 4" (R41), or the write is refused (20_memory.md R102;
log entry 20); what the parser makes of a tail beyond the ring is 10_state.md R47's modulo. -/
def State.hostWriteTail (s : State) (e : Engine) (tail : Nat) : Result :=
  if tail % 4 = 0 then
    .next ((s.setParser e { s.parser e with ring := { (s.parser e).ring with tail := tail } }).dmaTail e tail)
  else .refused .misaligned

/-- `HostWriteReg(off, v)`: storage (70_reset_and_hazards.md R835). The ring registers hold `Ring`, and which of their bits
hold what is not in the source (log entry 21). The source states no alignment of register offsets: one that is no multiple
of 4 names no 32-bit register (10_state.md R60) and is refused (DESIGN CHOICE, log entry 21). -/
def State.hostWriteReg (s : State) (off : Nat) (v : Word) : Result :=
  if off % 4 = 0 then
    if ringRegisterOffsets.contains off then .refused .registerLayoutNotInSource
    else .next (s.writeReg off v)
  else .refused .misaligned

/-- `HostWriteReg` on a register named without an offset. -/
def State.hostWriteNamedReg (s : State) (r : NamedReg) (v : Word) : Result :=
  if r.isRingPointer then .refused .registerLayoutNotInSource else .next (s.writeNamed r v)

/-- `HostReadReg`: observes, no effect (70_reset_and_hazards.md R835). An offset that is no multiple of 4 is refused, as in
`hostWriteReg` (DESIGN CHOICE, log entry 21). -/
def State.hostReadReg (s : State) (off : Nat) : Result :=
  if off % 4 = 0 then .next s else .refused .misaligned

/-- `HostMapPage(table, a, p)`: extends `Translate` (20_memory.md R98, 70_reset_and_hazards.md R835). -/
def State.hostMapPage (s : State) (i : TableId) (a : GraphicsAddress) (e : PageEntry) : State :=
  s.setTableById i ((s.tableById i).mapPage a e)

/-- The size of a translation table: "128KB, 256KB or 512KB", and for the PPGTT also 64 KB (20_memory.md R96; log
entry 8). -/
def State.hostSetTableSize (s : State) (i : TableId) (size : TableSize) : Result :=
  if i = .global ∧ size = .kb64 then .refused .tableSizeIllegal
  else .next (s.setTableById i { s.tableById i with size := size })

/-- The device writes DWord `k` of a status page where that is a reserved one: "What the hardware writes to reserved DWords
is unspecified" (49_logical_context.md R753; 93_implementation_defined.md U9), a free value (log entry 49). -/
def State.deviceWriteReserved (s : State) (e : Engine) (k : Nat) : Result :=
  if k < statusPageDwords ∧ statusDword e k = .reserved then
    match s.storeGfx (s.tableIdOf e) (s.statusAddress e k) (bytesOfWord (Config.reservedStatusDword s.freeCounter)) with
    | .next t => .next t.bumpFree
    | .fault f => .fault f
    | .refused r => .refused r
  else .next s

/-- A surface access observes (48_surface_layout.md R700, R706); an unmapped page is a GTT error (R707). -/
def State.performSurfaceAccess (s : State) (a : Surface.Access) : Result :=
  match s.surfaceAccess a with
  | .next _ => .next s
  | .fault f => .fault f
  | .refused r => .refused r

/-- Every event but the step of a parser, which needs the meanings of the commands. -/
def State.perform (s : State) : Event → Result
  | .runParser e => .next (s.setTurn e)
  | .hostWriteMem sp a bytes => s.hostWriteMem sp a bytes
  | .hostProgramRing e start length head tail => s.hostProgramRing e start length head tail
  | .hostWriteTail e tail => s.hostWriteTail e tail
  | .hostWriteReg off v => s.hostWriteReg off v
  | .hostWriteNamedReg r v => s.hostWriteNamedReg r v
  | .hostReadMem sp a n => s.hostReadMem sp a n
  | .hostReadReg off => s.hostReadReg off
  | .hostMapPage i a e => .next (s.hostMapPage i a e)
  | .setStatusPage e page => .next (s.setParser e { s.parser e with statusPage := page })
  | .setTable e t => .next (s.setParser e { s.parser e with table := t })
  | .dataPortWrite o bytes => s.dataPortWrite o bytes
  | .spawnThread t => .next (s.spawn t)
  | .euException k => s.takeException k
  | .hostSetTableSize i size => s.hostSetTableSize i size
  | .deviceWriteReserved e k => s.deviceWriteReserved e k
  | .scratchWrite k o bytes => s.scratchWrite k o bytes
  | .pushMask k m => .next (s.modifyThread k fun t => t.pushMask m)
  | .popMask k => .next (s.modifyThread k EuThread.popMask)
  | .endThread k => .next (s.endThread k)
  | .urbWrite h e => .next (s.urbWrite h e)
  | .cache op => .next (s.setHidden (s.hidden.apply op))
  | .vcsDmaRequest => s.vcsDmaRequest
  | .surfaceAccess a => s.performSurfaceAccess a

/-- What moves next. -/
inductive Action where
  | parser (s : State)
  | done (r : Result)

/-- The first scheduled event, taken off the schedule; with none scheduled, the parser whose turn it is
(70_reset_and_hazards.md R836; log entry 16). -/
def State.nextAction (s : State) : Action :=
  match s.schedule with
  | [] => .parser s
  | ev :: rest =>
      match ev with
      | .runParser e => .parser ((s.setSchedule rest).setTurn e)
      | ev => .done ((s.setSchedule rest).perform ev)

end Sys2Proof.Machine
end

