-- ==== Sys2Proof/Machine/Program.lean ====
section
/-! DEFINITION. Placing one command where a parser fetches next: what the host events of 70_reset_and_hazards.md R802 do,
in one stroke (log entry 18). -/

namespace Sys2Proof.Machine

/-- The page, graphics and physical, that the placed ring occupies. -/
abbrev programPage : Nat := 1

/-- The ring the command is placed in: one page, the head at its start, the longest command before the tail. -/
def programRing : Ring := ⟨BitVec.ofNat 32 (programPage * Config.pageSize), 4096, 0, 4 * maxWords, true⟩

/-- The state in which the parser of `e` fetches the given bytes next: the ring's page is mapped in the global table, the
bytes lie in it, the ring is programmed, no batch buffer is active and no event comes first. -/
def State.placeProgram (s : State) (e : Engine) (bs : List Byte) : State :=
  let s1 := s.setGtt
    ((s.gtt).mapPage (BitVec.ofNat 32 (programPage * Config.pageSize)) ⟨programPage, false⟩)
  let s2 := s1.setPhys (writePhys s1.phys (List.range' (programPage * Config.pageSize) bs.length) bs)
  let s3 := s2.setParser e { s2.parser e with
    ring := programRing, bb := { (s2.parser e).bb with active := false }, table := .global }
  (s3.setTurn e).setSchedule []

end Sys2Proof.Machine
end

