-- ==== Sys2Proof/Machine/Step.lean ====
section
/-! DEFINITION. One step of the machine: one event of another agent, or one command of the parser whose turn it is
(70_reset_and_hazards.md R830, R836). -/

namespace Sys2Proof.Machine

/-- The parser whose turn it is parses and executes one command; idle, it stays as it is (10_state.md R47). -/
def stepParser (s : State) : Host.Outcome State Fault Refusal :=
  match s.fetch with
  | .idle => .next s
  | .fault f => .fault f
  | .refused r => .refused r
  | .command i => exec i s

/-- One step. -/
def step (s : State) : Host.Outcome State Fault Refusal :=
  match s.nextAction with
  | .parser t => stepParser t
  | .done r => r

/-- The state with one command stored where the next step fetches (log entry 18). -/
def State.withFetchWord (s : State) (nbits w : Nat) : State :=
  s.placeProgram (tableEngine (tableBytes nbits w)) (tableBytes nbits w)

end Sys2Proof.Machine
end

