-- ==== Sys2Proof/Machine/Dxt.lean ====
section
/-! DEFINITION. DXT1 to DXT5 (BC1 to BC3), on exact rationals (46_fxt1_dxt.md R570 to R576; the spec's decision D26,
log entry 37). -/

namespace Sys2Proof.Formats

/-- `color_0` and `color_1` of a block (46_fxt1_dxt.md R571). -/
def dxtColor (q : BitVec 64) (k : Nat) : Nat := bitsOf q (16 * k + 15) (16 * k)

/-- The two-bit code of texel [y][x] (46_fxt1_dxt.md R571). -/
def dxtCode (q : BitVec 64) (y x : Nat) : Nat := bitsOf q (32 + 2 * (4 * y + x) + 1) (32 + 2 * (4 * y + x))

/-- An R5G6B5 colour, opaque (46_fxt1_dxt.md R571). -/
def rgb565 (c : Nat) : Rgba := ⟨unorm 5 (c / 2048 % 32), unorm 6 (c / 32 % 64), unorm 5 (c % 32), 1⟩

/-- `(m * X + n * Y) / d` on each colour channel, opaque. -/
def mixUnit (m : ℚ) (x : Rgba) (n : ℚ) (y : Rgba) (d : ℚ) : Rgba :=
  ⟨(m * x.red + n * y.red) / d, (m * x.green + n * y.green) / d, (m * x.blue + n * y.blue) / d, 1⟩

/-- The four-colour branch, whatever the stored colours (46_fxt1_dxt.md R572, R573). -/
def dxt1RgbTexel (q : BitVec 64) (y x : Nat) : Rgba :=
  let c0 := rgb565 (dxtColor q 0)
  let c1 := rgb565 (dxtColor q 1)
  let c := dxtCode q y x
  if c = 0 then c0 else if c = 1 then c1 else if c = 2 then mixUnit 2 c0 1 c1 3 else mixUnit 1 c0 2 c1 3

/-- A transparent DXT1 texel: its colour is not in the source (46_fxt1_dxt.md R572; log entry 38). -/
def dxt1Transparent : Rgba :=
  ⟨Config.dxt1TransparentRgb 0, Config.dxt1TransparentRgb 1, Config.dxt1TransparentRgb 2, 0⟩

/-- DXT1: the comparison of the stored integers selects four colours or three and transparency
(46_fxt1_dxt.md R572). -/
def dxt1Texel (q : BitVec 64) (y x : Nat) : Rgba :=
  let c := dxtCode q y x
  if dxtColor q 1 < dxtColor q 0 then dxt1RgbTexel q y x
  else if c = 2 then mixUnit 1 (rgb565 (dxtColor q 0)) 1 (rgb565 (dxtColor q 1)) 2
  else if c = 3 then dxt1Transparent
  else dxt1RgbTexel q y x

/-- The transparency half of a 128-bit block (46_fxt1_dxt.md R574). -/
def dxtAlphaBlock (x : BitVec 128) : BitVec 64 := x.extractLsb' 0 64

/-- The colour half of a 128-bit block (46_fxt1_dxt.md R574). -/
def dxtColorBlock (x : BitVec 128) : BitVec 64 := x.extractLsb' 64 64

/-- Explicit alpha of DXT2 and DXT3 (46_fxt1_dxt.md R575). -/
def explicitAlpha (t : BitVec 64) (y x : Nat) : ℚ := unorm 4 (bitsOf t (16 * y + 4 * x + 3) (16 * y + 4 * x))

/-- The eight-entry table two endpoints make: eight values where the first is greater, else six and the two
extremes (46_fxt1_dxt.md R576; 47_bc4_bc7.md R600). -/
def eightEntry (greater : Bool) (e0 e1 low high : ℚ) (code : Nat) : ℚ :=
  if code = 0 then e0
  else if code = 1 then e1
  else if greater then ((8 - code : ℚ) * e0 + (code - 1 : ℚ) * e1) / 7
  else if code = 6 then low
  else if code = 7 then high
  else ((6 - code : ℚ) * e0 + (code - 1 : ℚ) * e1) / 5

/-- The three-bit code of texel [y][x] (46_fxt1_dxt.md R576). -/
def code3 (t : BitVec 64) (y x : Nat) : Nat := bitsOf t (16 + 3 * (4 * y + x) + 2) (16 + 3 * (4 * y + x))

/-- Interpolated alpha of DXT4 and DXT5 (46_fxt1_dxt.md R576). -/
def interpolatedAlpha (t : BitVec 64) (y x : Nat) : ℚ :=
  eightEntry (decide (bitsOf t 15 8 < bitsOf t 7 0)) (bitsOf t 7 0) (bitsOf t 15 8) 0 255 (code3 t y x) / 255

/-- DXT2 and DXT3 (46_fxt1_dxt.md R574, R575). -/
def dxt3Texel (b : BitVec 128) (y x : Nat) : Rgba :=
  { dxt1RgbTexel (dxtColorBlock b) y x with alpha := explicitAlpha (dxtAlphaBlock b) y x }

/-- DXT4 and DXT5 (46_fxt1_dxt.md R574, R576). -/
def dxt5Texel (b : BitVec 128) (y x : Nat) : Rgba :=
  { dxt1RgbTexel (dxtColorBlock b) y x with alpha := interpolatedAlpha (dxtAlphaBlock b) y x }

end Sys2Proof.Formats
end

