-- ==== Sys2Proof/Machine/Bc4Bc5.lean ====
section
/-! DEFINITION. BC4 and BC5 on exact rationals (47_bc4_bc7.md R600, R601; the spec's decision D26, log entry 37). -/

namespace Sys2Proof.Formats

/-- The two channel types of BC4 and BC5 (47_bc4_bc7.md R600). -/
inductive BcChannel where
  | unorm
  | snorm
deriving DecidableEq, Repr

/-- The stored byte as the integer that is compared (47_bc4_bc7.md R600; the spec's decision D26). -/
def BcChannel.stored : BcChannel → Nat → Int
  | .unorm, u => u
  | .snorm, u => signed 8 u

/-- The decoded channel value of a stored byte (47_bc4_bc7.md R600, 45_channel_formats.md R501, R503). -/
def BcChannel.value : BcChannel → Nat → ℚ
  | .unorm, u => Formats.unorm 8 u
  | .snorm, u => Formats.snorm 8 u

/-- What bit code 110 gives in the second mode (47_bc4_bc7.md R600). -/
def BcChannel.lowest : BcChannel → ℚ
  | .unorm => 0
  | .snorm => -1

/-- The red channel of texel [row][col] of a BC4 block (47_bc4_bc7.md R600). -/
def bc4Texel (c : BcChannel) (b : BitVec 64) (row col : Nat) : ℚ :=
  eightEntry (decide (c.stored (bitsOf b 15 8) < c.stored (bitsOf b 7 0))) (c.value (bitsOf b 7 0))
    (c.value (bitsOf b 15 8)) c.lowest 1 (code3 b row col)

/-- Red and green of texel [row][col] of a BC5 block: "The same calculations are done for green"
(47_bc4_bc7.md R601). -/
def bc5Texel (c : BcChannel) (b : BitVec 128) (row col : Nat) : ℚ × ℚ :=
  (bc4Texel c (b.extractLsb' 0 64) row col, bc4Texel c (b.extractLsb' 64 64) row col)

end Sys2Proof.Formats
end

