-- ==== Sys2Proof/Machine/Bc6h.lean ====
section
/-! DEFINITION. BC6H (47_bc4_bc7.md R605 to R629; the spec's decision D27, log entries 37 and 38). -/

namespace Sys2Proof.Formats

/-- The two BC6H formats (47_bc4_bc7.md R605). -/
inductive Bc6hFormat where
  | uf16
  | sf16
deriving DecidableEq, Repr

/-- The three channels a BC6H endpoint has (47_bc4_bc7.md R606). -/
inductive RgbChannel where
  | red
  | green
  | blue
deriving DecidableEq, Repr

/-- Endpoints "w", "x", "y" and "z" (47_bc4_bc7.md R606). -/
inductive Endpoint where
  | w
  | x
  | y
  | z
deriving DecidableEq, Repr

/-- `len` bits of one channel of one endpoint, from bit `lo` up, stored in the block from bit `pos` up. -/
structure EndpointBits where
  channel : RgbChannel
  endpoint : Endpoint
  lo : Nat
  len : Nat
  pos : Nat
deriving DecidableEq, Repr

/-- What the table of one mode gives (47_bc4_bc7.md R606). `delta` is the width of a channel's deltas, none where every
endpoint is an original value. -/
structure Bc6hMode where
  twoLines : Bool
  precision : Nat
  delta : Option (RgbChannel → Nat)
  fields : List EndpointBits

/-- Delta widths by channel. -/
def deltas (r g b : Nat) : Option (RgbChannel → Nat) :=
  some fun c => match c with
    | .red => r
    | .green => g
    | .blue => b

/-- Mode 0 (47_bc4_bc7.md R607). -/
def bc6hMode0 : Bc6hMode where
  twoLines := true
  precision := 10
  delta := deltas 5 5 5
  fields := [
    ⟨.green, .y, 4, 1, 2⟩, ⟨.blue, .y, 4, 1, 3⟩, ⟨.blue, .z, 4, 1, 4⟩, ⟨.red, .w, 0, 10, 5⟩,
    ⟨.green, .w, 0, 10, 15⟩, ⟨.blue, .w, 0, 10, 25⟩, ⟨.red, .x, 0, 5, 35⟩, ⟨.green, .z, 4, 1, 40⟩,
    ⟨.green, .y, 0, 4, 41⟩, ⟨.green, .x, 0, 5, 45⟩, ⟨.blue, .z, 0, 1, 50⟩, ⟨.green, .z, 0, 4, 51⟩,
    ⟨.blue, .x, 0, 5, 55⟩, ⟨.blue, .z, 1, 1, 60⟩, ⟨.blue, .y, 0, 4, 61⟩, ⟨.red, .y, 0, 5, 65⟩,
    ⟨.blue, .z, 2, 1, 70⟩, ⟨.red, .z, 0, 5, 71⟩, ⟨.blue, .z, 3, 1, 76⟩]

/-- Mode 1 (47_bc4_bc7.md R608). -/
def bc6hMode1 : Bc6hMode where
  twoLines := true
  precision := 7
  delta := deltas 6 6 6
  fields := [
    ⟨.green, .y, 5, 1, 2⟩, ⟨.green, .z, 4, 1, 3⟩, ⟨.green, .z, 5, 1, 4⟩, ⟨.red, .w, 0, 7, 5⟩,
    ⟨.blue, .z, 0, 1, 12⟩, ⟨.blue, .z, 1, 1, 13⟩, ⟨.blue, .y, 4, 1, 14⟩, ⟨.green, .w, 0, 7, 15⟩,
    ⟨.blue, .y, 5, 1, 22⟩, ⟨.blue, .z, 2, 1, 23⟩, ⟨.green, .y, 4, 1, 24⟩, ⟨.blue, .w, 0, 7, 25⟩,
    ⟨.blue, .z, 3, 1, 32⟩, ⟨.blue, .z, 5, 1, 33⟩, ⟨.blue, .z, 4, 1, 34⟩, ⟨.red, .x, 0, 6, 35⟩,
    ⟨.green, .y, 0, 4, 41⟩, ⟨.green, .x, 0, 6, 45⟩, ⟨.green, .z, 0, 4, 51⟩, ⟨.blue, .x, 0, 6, 55⟩,
    ⟨.blue, .y, 0, 4, 61⟩, ⟨.red, .y, 0, 6, 65⟩, ⟨.red, .z, 0, 6, 71⟩]

/-- Mode 2 (47_bc4_bc7.md R609). -/
def bc6hMode2 : Bc6hMode where
  twoLines := true
  precision := 11
  delta := deltas 5 4 4
  fields := [
    ⟨.red, .w, 0, 10, 5⟩, ⟨.green, .w, 0, 10, 15⟩, ⟨.blue, .w, 0, 10, 25⟩, ⟨.red, .x, 0, 5, 35⟩,
    ⟨.red, .w, 10, 1, 40⟩, ⟨.green, .y, 0, 4, 41⟩, ⟨.green, .x, 0, 4, 45⟩, ⟨.green, .w, 10, 1, 49⟩,
    ⟨.blue, .z, 0, 1, 50⟩, ⟨.green, .z, 0, 4, 51⟩, ⟨.blue, .x, 0, 4, 55⟩, ⟨.blue, .w, 10, 1, 59⟩,
    ⟨.blue, .z, 1, 1, 60⟩, ⟨.blue, .y, 0, 4, 61⟩, ⟨.red, .y, 0, 5, 65⟩, ⟨.blue, .z, 2, 1, 70⟩,
    ⟨.red, .z, 0, 5, 71⟩, ⟨.blue, .z, 3, 1, 76⟩]

/-- Mode 3 (47_bc4_bc7.md R610). -/
def bc6hMode3 : Bc6hMode where
  twoLines := true
  precision := 11
  delta := deltas 4 5 4
  fields := [
    ⟨.red, .w, 0, 10, 5⟩, ⟨.green, .w, 0, 10, 15⟩, ⟨.blue, .w, 0, 10, 25⟩, ⟨.red, .x, 0, 4, 35⟩,
    ⟨.red, .w, 10, 1, 39⟩, ⟨.green, .z, 4, 1, 40⟩, ⟨.green, .y, 0, 4, 41⟩, ⟨.green, .x, 0, 5, 45⟩,
    ⟨.green, .w, 10, 1, 50⟩, ⟨.green, .z, 0, 4, 51⟩, ⟨.blue, .x, 0, 4, 55⟩, ⟨.blue, .w, 10, 1, 59⟩,
    ⟨.blue, .z, 1, 1, 60⟩, ⟨.blue, .y, 0, 4, 61⟩, ⟨.red, .y, 0, 4, 65⟩, ⟨.blue, .z, 0, 1, 69⟩,
    ⟨.blue, .z, 2, 1, 70⟩, ⟨.red, .z, 0, 4, 71⟩, ⟨.green, .y, 4, 1, 75⟩, ⟨.blue, .z, 3, 1, 76⟩]

/-- Mode 4 (47_bc4_bc7.md R611). -/
def bc6hMode4 : Bc6hMode where
  twoLines := true
  precision := 11
  delta := deltas 4 4 5
  fields := [
    ⟨.red, .w, 0, 10, 5⟩, ⟨.green, .w, 0, 10, 15⟩, ⟨.blue, .w, 0, 10, 25⟩, ⟨.red, .x, 0, 4, 35⟩,
    ⟨.red, .w, 10, 1, 39⟩, ⟨.blue, .y, 4, 1, 40⟩, ⟨.green, .y, 0, 4, 41⟩, ⟨.green, .x, 0, 4, 45⟩,
    ⟨.green, .w, 10, 1, 49⟩, ⟨.blue, .z, 0, 1, 50⟩, ⟨.green, .z, 0, 4, 51⟩, ⟨.blue, .x, 0, 5, 55⟩,
    ⟨.blue, .w, 10, 1, 60⟩, ⟨.blue, .y, 0, 4, 61⟩, ⟨.red, .y, 0, 4, 65⟩, ⟨.blue, .z, 1, 1, 69⟩,
    ⟨.blue, .z, 2, 1, 70⟩, ⟨.red, .z, 0, 4, 71⟩, ⟨.blue, .z, 4, 1, 75⟩, ⟨.blue, .z, 3, 1, 76⟩]

/-- Mode 5 (47_bc4_bc7.md R612). -/
def bc6hMode5 : Bc6hMode where
  twoLines := true
  precision := 9
  delta := deltas 5 5 5
  fields := [
    ⟨.red, .w, 0, 9, 5⟩, ⟨.blue, .y, 4, 1, 14⟩, ⟨.green, .w, 0, 9, 15⟩, ⟨.green, .y, 4, 1, 24⟩,
    ⟨.blue, .w, 0, 9, 25⟩, ⟨.blue, .z, 4, 1, 34⟩, ⟨.red, .x, 0, 5, 35⟩, ⟨.green, .z, 4, 1, 40⟩,
    ⟨.green, .y, 0, 4, 41⟩, ⟨.green, .x, 0, 5, 45⟩, ⟨.blue, .z, 0, 1, 50⟩, ⟨.green, .z, 0, 4, 51⟩,
    ⟨.blue, .x, 0, 5, 55⟩, ⟨.blue, .z, 1, 1, 60⟩, ⟨.blue, .y, 0, 4, 61⟩, ⟨.red, .y, 0, 5, 65⟩,
    ⟨.blue, .z, 2, 1, 70⟩, ⟨.red, .z, 0, 5, 71⟩, ⟨.blue, .z, 3, 1, 76⟩]

/-- Mode 6 (47_bc4_bc7.md R613). -/
def bc6hMode6 : Bc6hMode where
  twoLines := true
  precision := 8
  delta := deltas 6 5 5
  fields := [
    ⟨.red, .w, 0, 8, 5⟩, ⟨.green, .z, 4, 1, 13⟩, ⟨.blue, .y, 4, 1, 14⟩, ⟨.green, .w, 0, 8, 15⟩,
    ⟨.blue, .z, 2, 1, 23⟩, ⟨.green, .y, 4, 1, 24⟩, ⟨.blue, .w, 0, 8, 25⟩, ⟨.blue, .z, 3, 1, 33⟩,
    ⟨.blue, .z, 4, 1, 34⟩, ⟨.red, .x, 0, 6, 35⟩, ⟨.green, .y, 0, 4, 41⟩, ⟨.green, .x, 0, 5, 45⟩,
    ⟨.blue, .z, 0, 1, 50⟩, ⟨.green, .z, 0, 4, 51⟩, ⟨.blue, .x, 0, 5, 55⟩, ⟨.blue, .z, 1, 1, 60⟩,
    ⟨.blue, .y, 0, 4, 61⟩, ⟨.red, .y, 0, 6, 65⟩, ⟨.red, .z, 0, 6, 71⟩]

/-- Mode 7 (47_bc4_bc7.md R614). -/
def bc6hMode7 : Bc6hMode where
  twoLines := true
  precision := 8
  delta := deltas 5 6 5
  fields := [
    ⟨.red, .w, 0, 8, 5⟩, ⟨.blue, .z, 0, 1, 13⟩, ⟨.blue, .y, 4, 1, 14⟩, ⟨.green, .w, 0, 8, 15⟩,
    ⟨.green, .y, 5, 1, 23⟩, ⟨.green, .y, 4, 1, 24⟩, ⟨.blue, .w, 0, 8, 25⟩, ⟨.green, .z, 5, 1, 33⟩,
    ⟨.blue, .z, 4, 1, 34⟩, ⟨.red, .x, 0, 5, 35⟩, ⟨.green, .z, 4, 1, 40⟩, ⟨.green, .y, 0, 4, 41⟩,
    ⟨.green, .x, 0, 6, 45⟩, ⟨.green, .z, 0, 4, 51⟩, ⟨.blue, .x, 0, 5, 55⟩, ⟨.blue, .z, 1, 1, 60⟩,
    ⟨.blue, .y, 0, 4, 61⟩, ⟨.red, .y, 0, 5, 65⟩, ⟨.blue, .z, 2, 1, 70⟩, ⟨.red, .z, 0, 5, 71⟩,
    ⟨.blue, .z, 3, 1, 76⟩]

/-- Mode 8 (47_bc4_bc7.md R615). -/
def bc6hMode8 : Bc6hMode where
  twoLines := true
  precision := 8
  delta := deltas 5 5 6
  fields := [
    ⟨.red, .w, 0, 8, 5⟩, ⟨.blue, .z, 1, 1, 13⟩, ⟨.blue, .y, 4, 1, 14⟩, ⟨.green, .w, 0, 8, 15⟩,
    ⟨.blue, .y, 5, 1, 23⟩, ⟨.green, .y, 4, 1, 24⟩, ⟨.blue, .w, 0, 8, 25⟩, ⟨.blue, .z, 5, 1, 33⟩,
    ⟨.blue, .z, 4, 1, 34⟩, ⟨.red, .x, 0, 5, 35⟩, ⟨.green, .z, 4, 1, 40⟩, ⟨.green, .y, 0, 4, 41⟩,
    ⟨.green, .x, 0, 5, 45⟩, ⟨.blue, .z, 0, 1, 50⟩, ⟨.green, .z, 0, 4, 51⟩, ⟨.blue, .x, 0, 6, 55⟩,
    ⟨.blue, .y, 0, 4, 61⟩, ⟨.red, .y, 0, 5, 65⟩, ⟨.blue, .z, 2, 1, 70⟩, ⟨.red, .z, 0, 5, 71⟩,
    ⟨.blue, .z, 3, 1, 76⟩]

/-- Mode 9 (47_bc4_bc7.md R616). -/
def bc6hMode9 : Bc6hMode where
  twoLines := true
  precision := 6
  delta := none
  fields := [
    ⟨.red, .w, 0, 6, 5⟩, ⟨.green, .z, 4, 1, 11⟩, ⟨.blue, .z, 0, 1, 12⟩, ⟨.blue, .z, 1, 1, 13⟩,
    ⟨.blue, .y, 4, 1, 14⟩, ⟨.green, .w, 0, 6, 15⟩, ⟨.green, .y, 5, 1, 21⟩, ⟨.blue, .y, 5, 1, 22⟩,
    ⟨.blue, .z, 2, 1, 23⟩, ⟨.green, .y, 4, 1, 24⟩, ⟨.blue, .w, 0, 6, 25⟩, ⟨.green, .z, 5, 1, 31⟩,
    ⟨.blue, .z, 3, 1, 32⟩, ⟨.blue, .z, 5, 1, 33⟩, ⟨.blue, .z, 4, 1, 34⟩, ⟨.red, .x, 0, 6, 35⟩,
    ⟨.green, .y, 0, 4, 41⟩, ⟨.green, .x, 0, 6, 45⟩, ⟨.green, .z, 0, 4, 51⟩, ⟨.blue, .x, 0, 6, 55⟩,
    ⟨.blue, .y, 0, 4, 61⟩, ⟨.red, .y, 0, 6, 65⟩, ⟨.red, .z, 0, 6, 71⟩]

/-- Mode 10 (47_bc4_bc7.md R617). -/
def bc6hMode10 : Bc6hMode where
  twoLines := false
  precision := 10
  delta := none
  fields := [
    ⟨.red, .w, 0, 10, 5⟩, ⟨.green, .w, 0, 10, 15⟩, ⟨.blue, .w, 0, 10, 25⟩, ⟨.red, .x, 0, 10, 35⟩,
    ⟨.green, .x, 0, 10, 45⟩, ⟨.blue, .x, 0, 10, 55⟩]

/-- Mode 11 (47_bc4_bc7.md R618). -/
def bc6hMode11 : Bc6hMode where
  twoLines := false
  precision := 11
  delta := deltas 9 9 9
  fields := [
    ⟨.red, .w, 0, 10, 5⟩, ⟨.green, .w, 0, 10, 15⟩, ⟨.blue, .w, 0, 10, 25⟩, ⟨.red, .x, 0, 9, 35⟩,
    ⟨.red, .w, 10, 1, 44⟩, ⟨.green, .x, 0, 9, 45⟩, ⟨.green, .w, 10, 1, 54⟩, ⟨.blue, .x, 0, 9, 55⟩,
    ⟨.blue, .w, 10, 1, 64⟩]

/-- Mode 12 (47_bc4_bc7.md R619). -/
def bc6hMode12 : Bc6hMode where
  twoLines := false
  precision := 12
  delta := deltas 8 8 8
  fields := [
    ⟨.red, .w, 0, 10, 5⟩, ⟨.green, .w, 0, 10, 15⟩, ⟨.blue, .w, 0, 10, 25⟩, ⟨.red, .x, 0, 8, 35⟩,
    ⟨.red, .w, 11, 1, 43⟩, ⟨.red, .w, 10, 1, 44⟩, ⟨.green, .x, 0, 8, 45⟩, ⟨.green, .w, 11, 1, 53⟩,
    ⟨.green, .w, 10, 1, 54⟩, ⟨.blue, .x, 0, 8, 55⟩, ⟨.blue, .w, 11, 1, 63⟩, ⟨.blue, .w, 10, 1, 64⟩]

/-- Mode 13 (47_bc4_bc7.md R620). -/
def bc6hMode13 : Bc6hMode where
  twoLines := false
  precision := 16
  delta := deltas 4 4 4
  fields := [
    ⟨.red, .w, 0, 10, 5⟩, ⟨.green, .w, 0, 10, 15⟩, ⟨.blue, .w, 0, 10, 25⟩, ⟨.red, .x, 0, 4, 35⟩,
    ⟨.red, .w, 15, 1, 39⟩, ⟨.red, .w, 14, 1, 40⟩, ⟨.red, .w, 13, 1, 41⟩, ⟨.red, .w, 12, 1, 42⟩,
    ⟨.red, .w, 11, 1, 43⟩, ⟨.red, .w, 10, 1, 44⟩, ⟨.green, .x, 0, 4, 45⟩, ⟨.green, .w, 15, 1, 49⟩,
    ⟨.green, .w, 14, 1, 50⟩, ⟨.green, .w, 13, 1, 51⟩, ⟨.green, .w, 12, 1, 52⟩, ⟨.green, .w, 11, 1, 53⟩,
    ⟨.green, .w, 10, 1, 54⟩, ⟨.blue, .x, 0, 4, 55⟩, ⟨.blue, .w, 15, 1, 59⟩, ⟨.blue, .w, 14, 1, 60⟩,
    ⟨.blue, .w, 13, 1, 61⟩, ⟨.blue, .w, 12, 1, 62⟩, ⟨.blue, .w, 11, 1, 63⟩, ⟨.blue, .w, 10, 1, 64⟩]

/-- Mode selection by bits 1:0 or 4:0; none where the mode is reserved (47_bc4_bc7.md R606, R621). -/
def bc6hMode (b : BitVec 128) : Option Bc6hMode :=
  if bitsOf b 1 0 = 0 then some bc6hMode0
  else if bitsOf b 1 0 = 1 then some bc6hMode1
  else match bitsOf b 4 0 with
    | 0b00010 => some bc6hMode2
    | 0b00110 => some bc6hMode3
    | 0b01010 => some bc6hMode4
    | 0b01110 => some bc6hMode5
    | 0b10010 => some bc6hMode6
    | 0b10110 => some bc6hMode7
    | 0b11010 => some bc6hMode8
    | 0b11110 => some bc6hMode9
    | 0b00011 => some bc6hMode10
    | 0b00111 => some bc6hMode11
    | 0b01011 => some bc6hMode12
    | 0b01111 => some bc6hMode13
    | _ => none

/-- One channel of one endpoint as stored, its bits gathered (47_bc4_bc7.md R606). -/
def Bc6hMode.stored (m : Bc6hMode) (b : BitVec 128) (c : RgbChannel) (e : Endpoint) : Nat :=
  (m.fields.filterMap fun f =>
    if f.channel = c ∧ f.endpoint = e then some (bitsOf b (f.pos + f.len - 1) f.pos * 2 ^ f.lo) else none).sum

/-- Sign extension of an `n`-bit value to 16 bits (47_bc4_bc7.md R624). -/
def signExtend16 (n v : Nat) : BitVec 16 := BitVec.ofInt 16 (signed n v)

/-- A value of `n` bits that is no delta, extended to 16 bits (47_bc4_bc7.md R624). -/
def Bc6hFormat.extend (f : Bc6hFormat) (n v : Nat) : BitVec 16 :=
  match f with
  | .uf16 => BitVec.ofNat 16 v
  | .sf16 => signExtend16 n v

/-- The absolute endpoint: "Overflows beyond 16 bits are ignored" (47_bc4_bc7.md R624). -/
def bc6hEndpoint (f : Bc6hFormat) (m : Bc6hMode) (b : BitVec 128) (c : RgbChannel) (e : Endpoint) : BitVec 16 :=
  let own := m.stored b c e
  match m.delta, e with
  | none, _ => f.extend m.precision own
  | some _, .w => f.extend m.precision own
  | some d, _ => f.extend m.precision (m.stored b c .w) + signExtend16 (d c) own

/-- Whether an endpoint lies in the range of its precision; at 16 bits every endpoint is itself
(47_bc4_bc7.md R625, 93_implementation_defined.md U16; log entry 38). -/
def inPrecision (f : Bc6hFormat) (p : Nat) (e : BitVec 16) : Bool :=
  match f with
  | .uf16 => decide (p = 16 ∨ e.toNat < 2 ^ p)
  | .sf16 => decide (p = 16 ∨ e.toInt.natAbs ≤ 2 ^ (p - 1) - 1)

/-- BC6H_UF16 unquantization (47_bc4_bc7.md R625). -/
def unquantizeUf16 (p e : Nat) : Nat :=
  if p = 16 then e
  else if e = 0 then 0
  else if e = 2 ^ p - 1 then 0xFFFF
  else (e * 65536 + 0x8000) / 2 ^ p

/-- BC6H_SF16 unquantization of a magnitude (47_bc4_bc7.md R625). -/
def unquantizeMagnitude (p a : Nat) : Nat :=
  if p = 16 then a
  else if a = 0 then 0
  else if a = 2 ^ (p - 1) - 1 then 0x7FFF
  else (a * 32768 + 0x4000) / 2 ^ (p - 1)

/-- BC6H_SF16 unquantization: "treated as sign magnitude" (47_bc4_bc7.md R625). -/
def unquantizeSf16 (p : Nat) (e : Int) : Int :=
  if e < 0 then -(unquantizeMagnitude p e.natAbs : Int) else (unquantizeMagnitude p e.natAbs : Int)

/-- e', a 17-bit signed integer (47_bc4_bc7.md R625). -/
def unquantize (f : Bc6hFormat) (p : Nat) (e : BitVec 16) : Int :=
  match f with
  | .uf16 => (unquantizeUf16 p e.toNat : Int)
  | .sf16 => unquantizeSf16 p e.toInt

/-- "TWO mode weights", also the 3-bit index weights of BC7 (47_bc4_bc7.md R626, R644). -/
def weights3 : List Nat := [0, 9, 18, 27, 37, 46, 55, 64]

/-- "ONE mode weights", also the 4-bit index weights of BC7 (47_bc4_bc7.md R626, R644). -/
def weights4 : List Nat := [0, 4, 9, 13, 17, 21, 26, 30, 34, 38, 43, 47, 51, 55, 60, 64]

/-- A palette value; the shift of a negative value is arithmetic (47_bc4_bc7.md R626; the spec's decision D27). -/
def blend (a b : Int) (weight : Nat) : Int := (a * (64 - weight) + b * weight + 32) / 64

/-- The final rescale, a float16 bit pattern (47_bc4_bc7.md R627). -/
def bc6hFinal (f : Bc6hFormat) (v : Int) : BitVec 16 :=
  match f with
  | .uf16 => BitVec.ofNat 16 (v.toNat * 31 / 64)
  | .sf16 => BitVec.ofNat 16 ((if v < 0 then 0x8000 else 0) + v.natAbs * 31 / 32)

/-- One case of a partition set: the line of texels [0][0] to [3][3] as sixteen decimal digits, and the texel numbers
of the "fix-up index" of each line (47_bc4_bc7.md R628, R646, R647). -/
structure Partition where
  lines : Nat
  fixups : List Nat
deriving DecidableEq, Repr

/-- The line of texel `n` (47_bc4_bc7.md R628). -/
def Partition.line (p : Partition) (n : Nat) : Nat := p.lines / 10 ^ (15 - n) % 10

/-- "only a single partition set", every texel on line 0 (47_bc4_bc7.md R645). -/
def onePartition : Partition := ⟨0, [0]⟩

/-- The 32 partitions of TWO, which BC7 shares (47_bc4_bc7.md R628, R646). -/
def twoPartitionsLow : List Partition := [
  ⟨11001100110011, [0, 15]⟩,
  ⟨1000100010001, [0, 15]⟩,
  ⟨111011101110111, [0, 15]⟩,
  ⟨1001100110111, [0, 15]⟩,
  ⟨100010011, [0, 15]⟩,
  ⟨11011101111111, [0, 15]⟩,
  ⟨1001101111111, [0, 15]⟩,
  ⟨100110111, [0, 15]⟩,
  ⟨10011, [0, 15]⟩,
  ⟨11011111111111, [0, 15]⟩,
  ⟨101111111, [0, 15]⟩,
  ⟨10111, [0, 15]⟩,
  ⟨1011111111111, [0, 15]⟩,
  ⟨11111111, [0, 15]⟩,
  ⟨111111111111, [0, 15]⟩,
  ⟨1111, [0, 15]⟩,
  ⟨100011101111, [0, 15]⟩,
  ⟨111000100000000, [0, 2]⟩,
  ⟨10001110, [0, 8]⟩,
  ⟨111001100010000, [0, 2]⟩,
  ⟨11000100000000, [0, 2]⟩,
  ⟨100011001110, [0, 8]⟩,
  ⟨10001100, [0, 8]⟩,
  ⟨111001100110001, [0, 15]⟩,
  ⟨11000100010000, [0, 2]⟩,
  ⟨100010001100, [0, 8]⟩,
  ⟨110011001100110, [0, 2]⟩,
  ⟨11011001101100, [0, 2]⟩,
  ⟨1011111101000, [0, 8]⟩,
  ⟨111111110000, [0, 8]⟩,
  ⟨111000110001110, [0, 2]⟩,
  ⟨11100110011100, [0, 2]⟩]

/-- The partition of a number: every field value has one. -/
def partitionOf (l : List Partition) (n : Nat) : Partition := l.getD n onePartition

/-- Where texel `n`'s index starts: each index has `bits` bits, a fix-up index one less
(47_bc4_bc7.md R622, R642). -/
def indexStart (fixups : List Nat) (bits lo n : Nat) : Nat :=
  lo + bits * n - (fixups.filter fun f => decide (f < n)).length

/-- The index of texel `n`; the missing high bit of a fix-up index is zero (47_bc4_bc7.md R622, R642). -/
def indexOf (b : BitVec 128) (fixups : List Nat) (bits lo n : Nat) : Nat :=
  let width := if n ∈ fixups then bits - 1 else bits
  let start := indexStart fixups bits lo n
  bitsOf b (start + width - 1) start

/-- The partition of a block (47_bc4_bc7.md R606, R629). -/
def Bc6hMode.partition (m : Bc6hMode) (b : BitVec 128) : Partition :=
  if m.twoLines then partitionOf twoPartitionsLow (bitsOf b 81 77) else onePartition

/-- The weight of texel `n` (47_bc4_bc7.md R622, R623, R626). -/
def Bc6hMode.weight (m : Bc6hMode) (b : BitVec 128) (n : Nat) : Nat :=
  if m.twoLines then weights3.getD (indexOf b (m.partition b).fixups 3 82 n) 0
  else weights4.getD (indexOf b [0] 4 65 n) 0

/-- The two endpoints of the line texel `n` is on (47_bc4_bc7.md R629). -/
def Bc6hMode.ends (m : Bc6hMode) (b : BitVec 128) (n : Nat) : Endpoint × Endpoint :=
  if (m.partition b).line n = 0 then (.w, .x) else (.y, .z)

/-- The number of a channel, for the free value below. -/
def RgbChannel.index : RgbChannel → Nat
  | .red => 0
  | .green => 1
  | .blue => 2

/-- One channel of texel `n` of a BC6H block, a float16 bit pattern (47_bc4_bc7.md R621, R629). An endpoint value outside its
precision leaves "any value" for a texel that uses it (R625, 93_implementation_defined.md U16), which does not say whether
in every channel: the model frees the channel whose own endpoint value is out of precision, and computes the other channels
of the texel, "each channel of each endpoint being processed independently" (R625; DESIGN CHOICE, log entry 38). -/
def bc6hTexel (f : Bc6hFormat) (b : BitVec 128) (n : Nat) (c : RgbChannel) : BitVec 16 :=
  match bc6hMode b with
  | none => 0
  | some m =>
    let e0 := bc6hEndpoint f m b c (m.ends b n).1
    let e1 := bc6hEndpoint f m b c (m.ends b n).2
    if inPrecision f m.precision e0 && inPrecision f m.precision e1 then
      bc6hFinal f (blend (unquantize f m.precision e0) (unquantize f m.precision e1) (m.weight b n))
    else Config.bc6hOutOfPrecision b n c.index

/-- "alpha is returned at its default value", which the source does not give (47_bc4_bc7.md R605). -/
def bc6hAlpha : ℚ := Config.bc6hDefaultAlpha

end Sys2Proof.Formats
end

