-- ==== Sys2Proof/Machine/Fxt1.lean ====
section
/-! DEFINITION. FXT1: 128 bits for two 4x4 blocks of A8R8G8B8 texels (46_fxt1_dxt.md R550 to R561). Integer division
truncates (the spec's decision D7, log entry 37). -/

namespace Sys2Proof.Formats

/-- A decoded texel, each channel 0 to 255. -/
structure Argb where
  a : Nat
  r : Nat
  g : Nat
  b : Nat
deriving DecidableEq, Repr

/-- Transparent black. -/
def Argb.clear : Argb := ⟨0, 0, 0, 0⟩

/-- Five bits to eight "by replicating the 3 MSBs into the 3 LSBs" (46_fxt1_dxt.md R553). -/
def exp5 (v : Nat) : Nat := v * 8 + v / 4

/-- Six bits to eight, the low bit given apart (46_fxt1_dxt.md R557). -/
def green6 (g5 lsb : Nat) : Nat := g5 * 8 + lsb * 4 + g5 / 8

/-- The four FXT1 modes (46_fxt1_dxt.md R551). -/
inductive Fxt1Mode where
  | ccHi
  | ccChroma
  | ccAlpha
  | ccMixed
deriving DecidableEq, Repr

/-- Mode selection by bits 127:125 (46_fxt1_dxt.md R551). -/
def fxt1Mode (x : BitVec 128) : Fxt1Mode :=
  if bitsOf x 127 127 = 1 then .ccMixed
  else if bitsOf x 127 126 = 0 then .ccHi
  else if bitsOf x 127 125 = 2 then .ccChroma
  else .ccAlpha

/-- A colour mixed channel by channel: `(m * X + n * Y + k) / d`, truncated. -/
def mixRgb (m : Nat) (x : Argb) (n : Nat) (y : Argb) (k d : Nat) : Argb :=
  ⟨255, (m * x.r + n * y.r + k) / d, (m * x.g + n * y.g + k) / d, (m * x.b + n * y.b + k) / d⟩

/-- The same with alpha mixed too (46_fxt1_dxt.md R561). -/
def mixArgb (m : Nat) (x : Argb) (n : Nat) (y : Argb) (k d : Nat) : Argb :=
  ⟨(m * x.a + n * y.a + k) / d, (m * x.r + n * y.r + k) / d, (m * x.g + n * y.g + k) / d,
    (m * x.b + n * y.b + k) / d⟩

/-- Three 5-bit channels whose lowest bit is at `lo`, expanded (46_fxt1_dxt.md R553). -/
def rgb555 (x : BitVec 128) (lo : Nat) : Argb :=
  ⟨255, exp5 (bitsOf x (lo + 14) (lo + 10)), exp5 (bitsOf x (lo + 9) (lo + 5)), exp5 (bitsOf x (lo + 4) lo)⟩

/-- Two-bit texel select (46_fxt1_dxt.md R554). -/
def select2 (x : BitVec 128) (n : Nat) : Nat := bitsOf x (2 * n + 1) (2 * n)

/-- CC_HI (46_fxt1_dxt.md R552, R553). -/
def ccHi (x : BitVec 128) (n : Nat) : Argb :=
  let c1 := rgb555 x 111
  let c0 := rgb555 x 96
  let s := bitsOf x (3 * n + 2) (3 * n)
  if s = 0 then c0 else if s = 6 then c1 else if s = 7 then Argb.clear else mixRgb (6 - s) c0 s c1 3 6

/-- Colour `k` of CC_CHROMA and CC_MIXED, all channels of five bits (46_fxt1_dxt.md R554). -/
def chromaColor (x : BitVec 128) (k : Nat) : Argb := rgb555 x (64 + 15 * k)

/-- CC_CHROMA (46_fxt1_dxt.md R554, R555). -/
def ccChroma (x : BitVec 128) (n : Nat) : Argb := chromaColor x (select2 x n)

/-- Colour `k` of CC_MIXED with a green low bit (46_fxt1_dxt.md R557). -/
def mixedColor (x : BitVec 128) (k lsb : Nat) : Argb :=
  { chromaColor x k with g := green6 (bitsOf x (73 + 15 * k) (69 + 15 * k)) lsb }

/-- The green low bits when Alpha[0] is 0 (46_fxt1_dxt.md R557). -/
def mixedLsb (x : BitVec 128) (k : Nat) : Nat :=
  if k = 3 then bitsOf x 126 126
  else if k = 2 then (bitsOf x 33 33 + bitsOf x 126 126) % 2
  else if k = 1 then bitsOf x 125 125
  else (bitsOf x 1 1 + bitsOf x 125 125) % 2

/-- CC_MIXED with Alpha[0] = 0 (46_fxt1_dxt.md R557). -/
def ccMixedOpaque (x : BitVec 128) (n : Nat) : Argb :=
  let k := if n < 16 then 0 else 2
  let c := mixedColor x k (mixedLsb x k)
  let d := mixedColor x (k + 1) (mixedLsb x (k + 1))
  let s := select2 x n
  if s = 0 then c else if s = 1 then mixRgb 2 c 1 d 1 3 else if s = 2 then mixRgb 1 c 2 d 1 3 else d

/-- CC_MIXED with Alpha[0] = 1 (46_fxt1_dxt.md R558). -/
def ccMixedTransparent (x : BitVec 128) (n : Nat) : Argb :=
  let c := chromaColor x (if n < 16 then 0 else 2)
  let d := if n < 16 then mixedColor x 1 (bitsOf x 125 125) else mixedColor x 3 (bitsOf x 126 126)
  let s := select2 x n
  if s = 0 then c else if s = 1 then mixRgb 1 c 1 d 0 2 else if s = 2 then d else Argb.clear

/-- CC_MIXED (46_fxt1_dxt.md R556). -/
def ccMixed (x : BitVec 128) (n : Nat) : Argb :=
  if bitsOf x 124 124 = 0 then ccMixedOpaque x n else ccMixedTransparent x n

/-- Colour `k` of CC_ALPHA, with its alpha (46_fxt1_dxt.md R559). -/
def alphaColor (x : BitVec 128) (k : Nat) : Argb :=
  { chromaColor x k with a := exp5 (bitsOf x (113 + 5 * k) (109 + 5 * k)) }

/-- CC_ALPHA with LERP = 0 (46_fxt1_dxt.md R560). -/
def ccAlphaLut (x : BitVec 128) (n : Nat) : Argb :=
  if select2 x n < 3 then alphaColor x (select2 x n) else Argb.clear

/-- CC_ALPHA with LERP = 1 (46_fxt1_dxt.md R561). -/
def ccAlphaLerp (x : BitVec 128) (n : Nat) : Argb :=
  let c := alphaColor x (if n < 16 then 0 else 2)
  let d := alphaColor x 1
  let s := select2 x n
  if s = 0 then c else if s = 1 then mixArgb 2 c 1 d 1 3 else if s = 2 then mixArgb 1 c 2 d 1 3 else d

/-- CC_ALPHA (46_fxt1_dxt.md R559). -/
def ccAlpha (x : BitVec 128) (n : Nat) : Argb :=
  if bitsOf x 124 124 = 0 then ccAlphaLut x n else ccAlphaLerp x n

/-- Texel `t(n)` of a block (46_fxt1_dxt.md R551). -/
def fxt1Texel (x : BitVec 128) (n : Nat) : Argb :=
  match fxt1Mode x with
  | .ccMixed => ccMixed x n
  | .ccHi => ccHi x n
  | .ccChroma => ccChroma x n
  | .ccAlpha => ccAlpha x n

/-- Column of texel `t(n)` in the 8 wide, 4 high block (46_fxt1_dxt.md R550; the second 4x4 block is DEDUCED to lie
to the right). -/
def fxt1Column (n : Nat) : Nat := if n < 16 then n % 4 else 4 + (n - 16) % 4

/-- Row of texel `t(n)` (46_fxt1_dxt.md R550). -/
def fxt1Row (n : Nat) : Nat := if n < 16 then n / 4 else (n - 16) / 4

end Sys2Proof.Formats
end

