-- ==== Sys2Proof/Machine/Bc7.lean ====
section
/-! DEFINITION. BC7 (47_bc4_bc7.md R630 to R648; log entries 37 and 38). The meaning of the rotation and of the index
selector, TWO partitions 32 to 39 in part, and some THREE partitions are "from general knowledge, not in source":
PRESUMED by the spec. -/

namespace Sys2Proof.Formats

/-- The index sets of a mode (47_bc4_bc7.md R633 to R640). -/
inductive Bc7Indices where
  /-- One set of `bits`-bit indices from block bit `pos` up. -/
  | shared (bits pos : Nat)
  /-- Two sets, each with its width and its lowest block bit; `selector` is the bit that exchanges them. -/
  | separate (colorBits colorPos alphaBits alphaPos : Nat) (selector : Option Nat)
deriving DecidableEq, Repr

/-- Which endpoints a P-bit belongs to (47_bc4_bc7.md R633 to R640). -/
inductive PBits where
  | none
  | perEndpoint (pos : Nat)
  | perLine (pos : Nat)
deriving DecidableEq, Repr

/-- What the table of one mode gives: `red`, `green`, `blue` and `alpha` are the block bits where endpoint 0 of that
channel starts, the other endpoints following (47_bc4_bc7.md R633 to R640). -/
structure Bc7Mode where
  lines : Nat
  partitionBits : Nat
  partitionPos : Nat
  rotationPos : Option Nat
  colorBits : Nat
  red : Nat
  green : Nat
  blue : Nat
  alphaBits : Nat
  alpha : Option Nat
  pbits : PBits
  indices : Bc7Indices
deriving DecidableEq, Repr

/-- Mode 0 (47_bc4_bc7.md R633). -/
def bc7Mode0 : Bc7Mode where
  lines := 3
  partitionBits := 4
  partitionPos := 1
  rotationPos := none
  colorBits := 4
  red := 5
  green := 29
  blue := 53
  alphaBits := 0
  alpha := none
  pbits := .perEndpoint 77
  indices := .shared 3 83

/-- Mode 1 (47_bc4_bc7.md R634). -/
def bc7Mode1 : Bc7Mode where
  lines := 2
  partitionBits := 6
  partitionPos := 2
  rotationPos := none
  colorBits := 6
  red := 8
  green := 32
  blue := 56
  alphaBits := 0
  alpha := none
  pbits := .perLine 80
  indices := .shared 3 82

/-- Mode 2 (47_bc4_bc7.md R635). -/
def bc7Mode2 : Bc7Mode where
  lines := 3
  partitionBits := 6
  partitionPos := 3
  rotationPos := none
  colorBits := 5
  red := 9
  green := 39
  blue := 69
  alphaBits := 0
  alpha := none
  pbits := .none
  indices := .shared 2 99

/-- Mode 3 (47_bc4_bc7.md R636). -/
def bc7Mode3 : Bc7Mode where
  lines := 2
  partitionBits := 6
  partitionPos := 4
  rotationPos := none
  colorBits := 7
  red := 10
  green := 38
  blue := 66
  alphaBits := 0
  alpha := none
  pbits := .perEndpoint 94
  indices := .shared 2 98

/-- Mode 4 (47_bc4_bc7.md R637). -/
def bc7Mode4 : Bc7Mode where
  lines := 1
  partitionBits := 0
  partitionPos := 0
  rotationPos := some 5
  colorBits := 5
  red := 8
  green := 18
  blue := 28
  alphaBits := 6
  alpha := some 38
  pbits := .none
  indices := .separate 2 50 3 81 (some 7)

/-- Mode 5 (47_bc4_bc7.md R638). -/
def bc7Mode5 : Bc7Mode where
  lines := 1
  partitionBits := 0
  partitionPos := 0
  rotationPos := some 6
  colorBits := 7
  red := 8
  green := 22
  blue := 36
  alphaBits := 8
  alpha := some 50
  pbits := .none
  indices := .separate 2 66 2 97 none

/-- Mode 6 (47_bc4_bc7.md R639). -/
def bc7Mode6 : Bc7Mode where
  lines := 1
  partitionBits := 0
  partitionPos := 0
  rotationPos := none
  colorBits := 7
  red := 7
  green := 21
  blue := 35
  alphaBits := 7
  alpha := some 49
  pbits := .perEndpoint 63
  indices := .shared 4 65

/-- Mode 7 (47_bc4_bc7.md R640). -/
def bc7Mode7 : Bc7Mode where
  lines := 2
  partitionBits := 6
  partitionPos := 8
  rotationPos := none
  colorBits := 5
  red := 14
  green := 34
  blue := 54
  alphaBits := 5
  alpha := some 74
  pbits := .perEndpoint 94
  indices := .shared 2 98

/-- The mode of the lowest set bit among bits 7:0; none where they are all zero (47_bc4_bc7.md R632, R641). -/
def bc7Mode (b : BitVec 128) : Option Bc7Mode :=
  if b.getLsbD 0 then some bc7Mode0
  else if b.getLsbD 1 then some bc7Mode1
  else if b.getLsbD 2 then some bc7Mode2
  else if b.getLsbD 3 then some bc7Mode3
  else if b.getLsbD 4 then some bc7Mode4
  else if b.getLsbD 5 then some bc7Mode5
  else if b.getLsbD 6 then some bc7Mode6
  else if b.getLsbD 7 then some bc7Mode7
  else none

/-- Partitions 32 to 63 of TWO (47_bc4_bc7.md R646); 32 to 35 and rows 0 and 1 of 36 to 39 are PRESUMED by the spec. -/
def twoPartitionsHigh : List Partition := [
  ⟨101010101010101, [0, 15]⟩,
  ⟨111100001111, [0, 15]⟩,
  ⟨101101001011010, [0, 6]⟩,
  ⟨11001111001100, [0, 8]⟩,
  ⟨11110000111100, [0, 2]⟩,
  ⟨101010110101010, [0, 8]⟩,
  ⟨110100101101001, [0, 15]⟩,
  ⟨101101010100101, [0, 15]⟩,
  ⟨111001111001110, [0, 2]⟩,
  ⟨1001111001000, [0, 8]⟩,
  ⟨11001001001100, [0, 2]⟩,
  ⟨11101111011100, [0, 2]⟩,
  ⟨110100110010110, [0, 2]⟩,
  ⟨11110011000011, [0, 15]⟩,
  ⟨110011010011001, [0, 15]⟩,
  ⟨11001100000, [0, 6]⟩,
  ⟨100111001000000, [0, 6]⟩,
  ⟨10011100100000, [0, 2]⟩,
  ⟨1001110010, [0, 6]⟩,
  ⟨10011100100, [0, 8]⟩,
  ⟨110110010010011, [0, 15]⟩,
  ⟨11011011001001, [0, 15]⟩,
  ⟨110001110011100, [0, 2]⟩,
  ⟨11100111000110, [0, 2]⟩,
  ⟨110110011001001, [0, 15]⟩,
  ⟨110001100111001, [0, 15]⟩,
  ⟨111111010000001, [0, 15]⟩,
  ⟨1100011100111, [0, 15]⟩,
  ⟨111100110011, [0, 15]⟩,
  ⟨11001111110000, [0, 2]⟩,
  ⟨10001011101110, [0, 2]⟩,
  ⟨100010001110111, [0, 15]⟩]

/-- The 64 partitions of TWO (47_bc4_bc7.md R646). -/
def twoPartitions : List Partition := twoPartitionsLow ++ twoPartitionsHigh

/-- Partitions 0 to 31 of THREE (47_bc4_bc7.md R647); 28 to 31 are PRESUMED by the spec. -/
def threePartitionsLow : List Partition := [
  ⟨11001102212222, [0, 3, 15]⟩,
  ⟨1001122112221, [0, 3, 8]⟩,
  ⟨200122112211, [0, 15, 8]⟩,
  ⟨222002200110111, [0, 15, 3]⟩,
  ⟨11221122, [0, 8, 15]⟩,
  ⟨11001100220022, [0, 3, 15]⟩,
  ⟨22002211111111, [0, 15, 3]⟩,
  ⟨11001122112211, [0, 15, 8]⟩,
  ⟨11112222, [0, 8, 15]⟩,
  ⟨111111112222, [0, 8, 15]⟩,
  ⟨111122222222, [0, 6, 15]⟩,
  ⟨12001200120012, [0, 6, 15]⟩,
  ⟨112011201120112, [0, 6, 15]⟩,
  ⟨122012201220122, [0, 5, 15]⟩,
  ⟨11011211221222, [0, 3, 15]⟩,
  ⟨11200122002220, [0, 3, 8]⟩,
  ⟨1001101121122, [0, 3, 15]⟩,
  ⟨111001120012200, [0, 3, 8]⟩,
  ⟨112211221122, [0, 8, 15]⟩,
  ⟨22002200221111, [0, 15, 3]⟩,
  ⟨111011102220222, [0, 3, 15]⟩,
  ⟨1000122212221, [0, 3, 8]⟩,
  ⟨1101220122, [0, 6, 15]⟩,
  ⟨110022102210, [0, 10, 8]⟩,
  ⟨122012200110000, [0, 5, 3]⟩,
  ⟨12001211222222, [0, 8, 15]⟩,
  ⟨110122112210110, [0, 8, 6]⟩,
  ⟨11012211221, [0, 6, 10]⟩,
  ⟨22110211020022, [0, 8, 15]⟩,
  ⟨110011020022222, [0, 5, 15]⟩,
  ⟨11012201220011, [0, 15, 10]⟩,
  ⟨200022112221, [0, 15, 8]⟩]

/-- Partitions 32 to 63 of THREE (47_bc4_bc7.md R647); 32 to 35 and one row of 48 to 55 are PRESUMED by the spec. -/
def threePartitionsHigh : List Partition := [
  ⟨211221222, [0, 8, 15]⟩,
  ⟨222002200120011, [0, 15, 3]⟩,
  ⟨11001200220222, [0, 3, 15]⟩,
  ⟨120012001200120, [0, 5, 10]⟩,
  ⟨111122220000, [0, 6, 10]⟩,
  ⟨120120120120120, [0, 10, 8]⟩,
  ⟨120201212010120, [0, 8, 9]⟩,
  ⟨11220011220011, [0, 15, 10]⟩,
  ⟨11112222000011, [0, 15, 6]⟩,
  ⟨101010122222222, [0, 3, 15]⟩,
  ⟨21212121, [0, 15, 8]⟩,
  ⟨22112200221122, [0, 5, 15]⟩,
  ⟨22001100220011, [0, 15, 3]⟩,
  ⟨220122102201221, [0, 15, 6]⟩,
  ⟨101222222220101, [0, 15, 6]⟩,
  ⟨212121212121, [0, 15, 8]⟩,
  ⟨101010101012222, [0, 3, 15]⟩,
  ⟨222011102220111, [0, 15, 3]⟩,
  ⟨2111200021112, [0, 5, 15]⟩,
  ⟨211221122112, [0, 5, 15]⟩,
  ⟨222011101110222, [0, 5, 15]⟩,
  ⟨2111211120002, [0, 8, 15]⟩,
  ⟨110011001102222, [0, 5, 15]⟩,
  ⟨21122112, [0, 10, 15]⟩,
  ⟨110011022222222, [0, 5, 15]⟩,
  ⟨22001100110022, [0, 10, 15]⟩,
  ⟨22112211220022, [0, 8, 15]⟩,
  ⟨2112, [0, 13, 15]⟩,
  ⟨2000100020001, [0, 15, 3]⟩,
  ⟨222122202221222, [0, 12, 15]⟩,
  ⟨101222222222222, [0, 3, 15]⟩,
  ⟨111201122012220, [0, 3, 8]⟩]

/-- The 64 partitions of THREE (47_bc4_bc7.md R647). -/
def threePartitions : List Partition := threePartitionsLow ++ threePartitionsHigh

/-- The partition of a block (47_bc4_bc7.md R645 to R648). -/
def Bc7Mode.partition (m : Bc7Mode) (b : BitVec 128) : Partition :=
  let n := bitsOf b (m.partitionPos + m.partitionBits - 1) m.partitionPos
  if m.lines = 2 then partitionOf twoPartitions n
  else if m.lines = 3 then partitionOf threePartitions n
  else onePartition

/-- "bit-replicated to create an 8-bit fixed point endpoint value" (47_bc4_bc7.md R643). -/
def replicate8 (n v : Nat) : Nat := (v * 2 ^ (8 - n) + v / 2 ^ (2 * n - 8)) % 256

/-- The P-bit of endpoint `k` (47_bc4_bc7.md R648). -/
def PBits.of (p : PBits) (b : BitVec 128) (k : Nat) : Option Nat :=
  match p with
  | .none => Option.none
  | .perEndpoint pos => some (bitsOf b (pos + k) (pos + k))
  | .perLine pos => some (bitsOf b (pos + k / 2) (pos + k / 2))

/-- "If a P-bit is defined for the endpoint, it is first added as an additional LSB" (47_bc4_bc7.md R643). -/
def bc7Endpoint (v n : Nat) (p : Option Nat) : Nat :=
  match p with
  | none => replicate8 n v
  | some q => replicate8 (n + 1) (2 * v + q)

/-- Component starting at block bit `pos`, `n` bits each, of endpoint `k` (47_bc4_bc7.md R633 to R640, R643). -/
def Bc7Mode.component (m : Bc7Mode) (b : BitVec 128) (pos n k : Nat) : Nat :=
  bc7Endpoint (bitsOf b (pos + n * k + n - 1) (pos + n * k)) n (m.pbits.of b k)

/-- "2-bit index weights" (47_bc4_bc7.md R644). -/
def weights2 : List Nat := [0, 21, 43, 64]

/-- The weight an index of a width selects (47_bc4_bc7.md R644). -/
def bc7Weight (bits index : Nat) : Nat :=
  if bits = 2 then weights2.getD index 0 else if bits = 3 then weights3.getD index 0 else weights4.getD index 0

/-- The weights of colour and alpha of texel `n` (47_bc4_bc7.md R642, R648). Selector 0: colour takes the first set;
1: they are exchanged, PRESUMED by the spec (R631). -/
def Bc7Mode.weights (m : Bc7Mode) (b : BitVec 128) (n : Nat) : Nat × Nat :=
  match m.indices with
  | .shared bits pos =>
    let w := bc7Weight bits (indexOf b (m.partition b).fixups bits pos n)
    (w, w)
  | .separate cb cp ab ap sel =>
    let c := bc7Weight cb (indexOf b [0] cb cp n)
    let a := bc7Weight ab (indexOf b [0] ab ap n)
    match sel with
    | none => (c, a)
    | some s => if b.getLsbD s then (a, c) else (c, a)

/-- Rotation: 1 exchanges alpha and red, 2 alpha and green, 3 alpha and blue; PRESUMED by the spec
(47_bc4_bc7.md R631). -/
def rotateArgb (t : Argb) (rotation : Nat) : Argb :=
  if rotation = 1 then { t with a := t.r, r := t.a }
  else if rotation = 2 then { t with a := t.g, g := t.a }
  else if rotation = 3 then { t with a := t.b, b := t.a }
  else t

/-- A palette value of two unsigned endpoints (47_bc4_bc7.md R644). -/
def bc7Blend (e0 e1 weight : Nat) : Nat := (e0 * (64 - weight) + e1 * weight + 32) / 64

/-- Texel `n` of a block of a mode that is not reserved (47_bc4_bc7.md R648). -/
def Bc7Mode.texel (m : Bc7Mode) (b : BitVec 128) (n : Nat) : Argb :=
  let k := 2 * (m.partition b).line n
  let w := m.weights b n
  let channel (pos bits weight : Nat) := bc7Blend (m.component b pos bits k) (m.component b pos bits (k + 1)) weight
  let t : Argb := ⟨m.alpha.elim 255 fun p => channel p m.alphaBits w.2, channel m.red m.colorBits w.1,
    channel m.green m.colorBits w.1, channel m.blue m.colorBits w.1⟩
  match m.rotationPos with
  | none => t
  | some p => rotateArgb t (bitsOf b (p + 1) p)

/-- Texel `n` of a BC7 block, each channel an 8-bit UNORM (47_bc4_bc7.md R641, R648). -/
def bc7Texel (b : BitVec 128) (n : Nat) : Argb :=
  match bc7Mode b with
  | none => ⟨(Config.bc7ReservedAlpha b).toNat, 0, 0, 0⟩
  | some m => m.texel b n

/-- BC7_UNORM (47_bc4_bc7.md R645). -/
def bc7Unorm (b : BitVec 128) (n : Nat) : Rgba :=
  let t := bc7Texel b n
  ⟨unorm 8 t.r, unorm 8 t.g, unorm 8 t.b, unorm 8 t.a⟩

/-- BC7_UNORM_SRGB: red, green and blue "first go through inverse gamma conversion" (47_bc4_bc7.md R645;
45_channel_formats.md R502); a reserved block gives zero in them at once (47_bc4_bc7.md R641, R648;
93_implementation_defined.md U12). -/
def bc7Srgb (b : BitVec 128) (n : Nat) : Rgba :=
  let t := bc7Unorm b n
  match bc7Mode b with
  | none => ⟨0, 0, 0, t.alpha⟩
  | some _ => ⟨Config.srgbToLinear t.red, Config.srgbToLinear t.green, Config.srgbToLinear t.blue, t.alpha⟩

end Sys2Proof.Formats
end

