-- ==== Sys2Proof/Machine/Flags.lean ====
section
/-! DEFINITION. Predicate and condition state (10_state.md R58). The command parsers have no flags: no defined command
writes a condition code as a side effect. What the source names is the render parser's predicate registers. -/

namespace Sys2Proof.Machine

/-- `MI_PREDICATE_SRC0` (10_state.md R58). -/
def State.predicateSrc0 (s : State) : BitVec 64 := s.readReg64 0x2400

/-- `MI_PREDICATE_SRC1` (10_state.md R58). -/
def State.predicateSrc1 (s : State) : BitVec 64 := s.readReg64 0x2408

/-- `MI_PREDICATE_DATA` (10_state.md R58). -/
def State.predicateData (s : State) : BitVec 64 := s.readReg64 0x2410

/-- `MI_PRED_RESULT` (10_state.md R58). -/
def State.predicateResult (s : State) : Word := s.readReg 0x2418

end Sys2Proof.Machine
end

