-- ==== Sys2Proof/Machine/FunctionIds.lean ====
section
/-! DEFINITION. The function ids of the GPE and the memory object types: names the spec fixes that no defined command
uses (00_scope.md R18; 20_memory.md R94). -/

namespace Sys2Proof.Machine

/-- Shared functions: targets of a message (00_scope.md R18). -/
inductive SharedFunction where
  /-- Null. -/
  | null
  /-- Sampler. -/
  | sampler
  /-- Message Gateway. -/
  | gateway
  /-- Sampler Cache Data Port. -/
  | dpSampler
  /-- Render Cache Data Port. -/
  | dpRc
  /-- URB. -/
  | urb
  /-- Thread Spawner. -/
  | spawner
  /-- Video Motion Estimation. -/
  | vme
  /-- Constant Cache Data Port. -/
  | dpCc
  /-- Data Cache Data Port. -/
  | dpDc
  /-- Pixel Interpolator. -/
  | pi
deriving DecidableEq, Repr

/-- Fixed functions: units of the 3D or Media pipeline (00_scope.md R18). -/
inductive FixedFunction where
  /-- Null. -/
  | null
  /-- Hull Shader. -/
  | hs
  /-- Domain Shader. -/
  | ds
  /-- Thread Spawner. -/
  | spawner
  /-- Video Front End. -/
  | vfe
  /-- Vertex Shader. -/
  | vs
  /-- Command Stream. -/
  | cs
  /-- Vertex Fetch. -/
  | vf
  /-- Geometry Shader. -/
  | gs
  /-- Clipper Unit. -/
  | clip
  /-- Strip/Fan Unit. -/
  | sf
  /-- Windower/Masker Unit. -/
  | wm
deriving DecidableEq, Repr

/-- The shared function of `ID[3:0]`; none where it is Reserved (00_scope.md R18). -/
def sharedFunction (id : BitVec 4) : Option SharedFunction :=
  match id.toNat with
  | 0 => some .null
  | 2 => some .sampler
  | 3 => some .gateway
  | 4 => some .dpSampler
  | 5 => some .dpRc
  | 6 => some .urb
  | 7 => some .spawner
  | 8 => some .vme
  | 9 => some .dpCc
  | 10 => some .dpDc
  | 11 => some .pi
  | _ => none

/-- The fixed function of `ID[3:0]`; none where it is Reserved (00_scope.md R18). -/
def fixedFunction (id : BitVec 4) : Option FixedFunction :=
  match id.toNat with
  | 0 => some .null
  | 4 => some .hs
  | 5 => some .ds
  | 7 => some .spawner
  | 8 => some .vfe
  | 9 => some .vs
  | 10 => some .cs
  | 11 => some .vf
  | 12 => some .gs
  | 13 => some .clip
  | 14 => some .sf
  | 15 => some .wm
  | _ => none

/-- Memory object types: "Any memory data accessed by the device is considered part of a memory object"
(20_memory.md R94). -/
inductive MemoryObjectType where
  /-- Graphics Translation Table (GTT). -/
  | graphicsTranslationTable
  /-- Hardware Status Page. -/
  | hardwareStatusPage
  /-- Logical Context Buffer. -/
  | logicalContextBuffer
  /-- Ring Buffers. -/
  | ringBuffers
  /-- Batch Buffers. -/
  | batchBuffers
  /-- State Descriptors. -/
  | stateDescriptors
  /-- Vertex Buffers. -/
  | vertexBuffers
  /-- VGA Buffer. -/
  | vgaBuffer
  /-- Display Surface. -/
  | displaySurface
  /-- Overlay Surface. -/
  | overlaySurface
  /-- Overlay Register, Filter Coefficients Buffer. -/
  | overlayRegisterFilterCoefficientsBuffer
  /-- Cursor Surface. -/
  | cursorSurface
  /-- 2D Render Source. -/
  | twoDRenderSource
  /-- 2D Render R-M-W Destination. -/
  | twoDRenderRMWDestination
  /-- 2D Render Write-Only Destination. -/
  | twoDRenderWriteOnlyDestination
  /-- 2D Monochrome Source. -/
  | twoDMonochromeSource
  /-- 2D Color Pattern. -/
  | twoDColorPattern
  /-- DIB. -/
  | dib
  /-- 3D Color Buffer. -/
  | threeDColorBuffer
  /-- 3D Depth Buffer. -/
  | threeDDepthBuffer
  /-- 3D Texture Map. -/
  | threeDTextureMap
  /-- "Non-3D" Texture. -/
  | non3DTexture
  /-- Motion Comp Surfaces. -/
  | motionCompSurfaces
  /-- Motion Comp Correction Data Buffer. -/
  | motionCompCorrectionDataBuffer
deriving DecidableEq, Repr

end Sys2Proof.Machine
end

