-- ==== Sys2Proof/Safety.lean ====
section
/-! DEFINITION. What a well-kept state is: the constraints the spec puts on state, which every step keeps
(10_state.md R41, R42, R73, R77; 20_memory.md R96, R97; 40_common_commands.md R190, R200, R201). -/

namespace Sys2Proof.Machine

/-- A ring that is programmed obeys 10_state.md R41: a 4 KB start, at most 2 MB, pointers to DWords. -/
structure Ring.Wf (r : Ring) : Prop where
  start : r.start.toNat % Config.pageSize = 0
  bounded : r.length ≤ Config.maxRingLength
  headAligned : r.head % 4 = 0
  tailAligned : r.tail % 4 = 0

/-- A translation table lists page numbers rising, each once (20_memory.md R97, R98). -/
def PageTable.Wf (t : PageTable) : Prop := Assoc.sorted t.entries = true

/-- A parser: its ring, where programmed, and its batch buffer head, a DWord address (10_state.md R41, R42). -/
structure Parser.Wf (p : Parser) : Prop where
  ring : p.ring.valid = true → p.ring.Wf
  bbHead : p.bb.head.toNat % 4 = 0
  ppgtt : p.ppgtt.Wf

/-- A control state variable: bit 3 is not 1 (40_common_commands.md R200, R201; log entry 31). -/
def SVar.mocsLegal (m : SVar 4) : Prop :=
  match m with
  | .unset => True
  | .holds v => mocsReserved v = false

/-- The state variables: no reserved pipeline, no reserved control state bit, the indirect object bound and the instruction
bound above their bases where they are in force (40_common_commands.md R190, R200, R201). -/
structure Gpe.Wf (g : Gpe) : Prop where
  pipeline : g.pipelineSelect ≠ .holds 3
  general : g.generalStateMocs.mocsLegal
  dataPort : g.statelessDataPortMocs.mocsLegal
  surface : g.surfaceStateMocs.mocsLegal
  dynamicState : g.dynamicStateMocs.mocsLegal
  indirectObject : g.indirectObjectMocs.mocsLegal
  instruction : g.instructionMocs.mocsLegal
  swTess : g.swTessMocs.mocsLegal
  bounds : g.boundsViolated = false

/-- "A thread can be uniquely identified by the EUID and TID" (10_state.md R73). -/
def threadsDistinct (l : List EuThread) : Prop := l.Pairwise fun t u => t.euid ≠ u.euid ∨ t.tid ≠ u.tid

/-- The threads fit the hardware: at most `NUM_EUS * THREADS_PER_EU` in all, `THREADS_PER_EU` on each EU and `NUM_EUS` EUs
(00_scope.md R17, 10_state.md R33). -/
structure ThreadsFit (v : Config.Variant) (l : List EuThread) : Prop where
  slots : l.length ≤ v.threadSlots
  perEu : ∀ e : BitVec 4, (l.filter fun u => decide (u.euid = e)).length ≤ v.threadsPerEu
  eus : (l.map EuThread.euid).dedup.length ≤ v.numEus

/-- The invariant of the machine. -/
structure State.Inv (s : State) : Prop where
  render : s.render.Wf
  video : s.video.Wf
  blitter : s.blitter.Wf
  gpe : s.gpe.Wf
  phys : memoryWf s.phys = true
  mmio : Assoc.canonical 0 s.mmio = true
  namedRegs : Assoc.canonical 0 s.namedRegs = true
  gtt : s.gtt.Wf
  /-- 64 KB "only for the per-process GTT" (20_memory.md R96). -/
  gttSize : s.gtt.size ≠ .kb64
  threads : threadsDistinct s.threads
  threadsFit : ThreadsFit s.variant s.threads
  /-- The URB lists its handles rising, each once (10_state.md R81; log entry 50). -/
  urb : Assoc.sorted s.urb = true
  /-- "the DMA FIFO (16 CL deep)" (10_state.md R48). -/
  fifo : s.hidden.vcsFifo.length ≤ Config.dmaFifoLines

/-- The states some run of steps reaches from `s`. -/
inductive Reachable (s : State) : State → Prop where
  | refl : Reachable s s
  | step {t u : State} : Reachable s t → Sys2Proof.Machine.step t = .next u → Reachable s u

end Sys2Proof.Machine
end

