-- ==== Sys2Proof/WellFormed.lean ====
section
/-! DEFINITION. Which commands the formats of the spec can hold: `Encodable` (the fields fit an encoding) and
`WellFormed` (reserved bits zero, the one legal DWord Length, no reserved value: 00_scope.md R12,
30_encoding.md R156 to R158). -/

namespace Sys2Proof

/-- DW0[15:8] is MBZ and the DWord Length is the printed default (30_encoding.md R156). -/
def LenHeader.wf (h : LenHeader) (defaultLength : BitVec 8) : Bool :=
  h.reserved == 0 && h.dwordLength == defaultLength

/-- Bit 3 of a memory object control state is not defined and must be zero (40_common_commands.md R200). -/
def mocsWf (m : BitVec 4) : Bool := !m.getLsbD 3

/-- DW1 of STATE_BASE_ADDRESS (40_common_commands.md R201). -/
def SbaGeneral.wf (d : SbaGeneral) : Bool := d.reserved == 0 && mocsWf d.mocs && mocsWf d.dataPortMocs

/-- DW2 to DW5 of STATE_BASE_ADDRESS (40_common_commands.md R201). -/
def SbaBase.wf (d : SbaBase) : Bool := d.reserved == 0 && mocsWf d.mocs

/-- DW6 to DW9 of STATE_BASE_ADDRESS (40_common_commands.md R201). -/
def SbaBound.wf (d : SbaBound) : Bool := d.reserved == 0

/-- The fields fit an encoding: only the media row leaves opcodes without one
(30_encoding.md R143: media opcodes 000 to 010). -/
def Instr.encodable : Instr → Bool
  | .mediaSubtype2hUnmapped data => (data.extractLsb' 24 3).toNat ≤ 2
  | .pipelineSelect .. => true
  | .stateBaseAddress .. => true
  | .stateSip .. => true
  | .swtessBaseAddress .. => true
  | .gpgpuCsrBaseAddress .. => true
  | .statePrefetch .. => true
  | .miNoop .. => true
  | .miUserInterrupt .. => true
  | .miWaitForEvent .. => true
  | .miOpcode04hUnnamed .. => true
  | .miArbCheck .. => true
  | .miReportHead .. => true
  | .miArbOnOff .. => true
  | .miBatchBufferEnd .. => true
  | .miSuspendFlush .. => true
  | .miPredicate .. => true
  | .miTopologyFilter .. => true
  | .miSetAppid .. => true
  | .miDisplayFlip .. => true
  | .miSemaphoreMbox .. => true
  | .miSetContext .. => true
  | .miMath .. => true
  | .miStoreDataImm .. => true
  | .miStoreDataIndex .. => true
  | .miLoadRegisterImm .. => true
  | .miUpdateGtt .. => true
  | .miStoreRegisterMem .. => true
  | .miFlushDw .. => true
  | .miClflush .. => true
  | .miReportPerfCount .. => true
  | .miLoadRegisterMem .. => true
  | .miBatchBufferStart .. => true
  | .miConditionalBatchBufferEnd .. => true
  | .xySetupBlt .. => true
  | .xySetupClipBlt .. => true
  | .xySetupMonoPatternSlBlt .. => true
  | .xyPixelBlt .. => true
  | .xyScanlinesBlt .. => true
  | .xyTextBlt .. => true
  | .xyTextImmediateBlt .. => true
  | .colorBlt .. => true
  | .srcCopyBlt .. => true
  | .xyColorBlt .. => true
  | .xyPatBlt .. => true
  | .xyMonoPatBlt .. => true
  | .xySrcCopyBlt .. => true
  | .xyMonoSrcCopyBlt .. => true
  | .xyFullBlt .. => true
  | .xyFullMonoSrcBlt .. => true
  | .xyFullMonoPatternBlt .. => true
  | .xyFullMonoPatternMonoSrcBlt .. => true
  | .xyMonoPatFixedBlt .. => true
  | .xyMonoSrcCopyImmediateBlt .. => true
  | .xyPatBltImmediate .. => true
  | .xySrcCopyChromaBlt .. => true
  | .xyFullImmediatePatternBlt .. => true
  | .xyFullMonoSrcImmediatePatternBlt .. => true
  | .xyPatChromaBlt .. => true
  | .xyPatChromaBltImmediate .. => true
  | .state3dClearParams .. => true
  | .state3dDepthBuffer .. => true
  | .state3dStencilBuffer .. => true
  | .state3dHierDepthBuffer .. => true
  | .state3dVertexBuffers .. => true
  | .state3dVertexElements .. => true
  | .state3dIndexBuffer .. => true
  | .state3dVfStatistics .. => true
  | .state3dViewportStatePointers .. => true
  | .state3dVs .. => true
  | .state3dGs .. => true
  | .state3dClip .. => true
  | .state3dSf .. => true
  | .state3dWm .. => true
  | .state3dConstantVs .. => true
  | .state3dConstantGs .. => true
  | .state3dConstantPs .. => true
  | .state3dSampleMask .. => true
  | .state3dConstantHs .. => true
  | .state3dConstantDs .. => true
  | .state3dHs .. => true
  | .state3dTe .. => true
  | .state3dDs .. => true
  | .state3dStreamout .. => true
  | .state3dSbe .. => true
  | .state3dPs .. => true
  | .state3dViewportStatePointersSfClip .. => true
  | .state3dViewportStatePointersCc .. => true
  | .state3dBlendStatePointers .. => true
  | .state3dDepthStencilStatePointers .. => true
  | .state3dBindingTablePointersVs .. => true
  | .state3dBindingTablePointersHs .. => true
  | .state3dBindingTablePointersDs .. => true
  | .state3dBindingTablePointersGs .. => true
  | .state3dBindingTablePointersPs .. => true
  | .state3dSamplerStatePointersVs .. => true
  | .state3dSamplerStatePointersHs .. => true
  | .state3dSamplerStatePointersDs .. => true
  | .state3dSamplerStatePointersGs .. => true
  | .state3dUrbVs .. => true
  | .state3dUrbHs .. => true
  | .state3dUrbDs .. => true
  | .state3dUrbGs .. => true
  | .state3dWmChromaKey .. => true
  | .state3dPsBlend .. => true
  | .state3dWmDepthStencil .. => true
  | .state3dPsExtra .. => true
  | .state3dRaster .. => true
  | .state3dSbeSwiz .. => true
  | .state3dWmHzOp .. => true
  | .state3dInt .. => true
  | .state3dDrawingRectangle .. => true
  | .state3dSamplerPaletteLoad0 .. => true
  | .state3dChromaKey .. => true
  | .state3dPolyStippleOffset .. => true
  | .state3dPolyStipplePattern .. => true
  | .state3dLineStipple .. => true
  | .state3dAaLineParams .. => true
  | .state3dGsSvbIndex .. => true
  | .state3dSamplerPaletteLoad1 .. => true
  | .state3dMultisample .. => true
  | .state3dStencilBufferNp .. => true
  | .state3dHierDepthBufferNp .. => true
  | .state3dClearParamsNp .. => true
  | .state3dMonofilterSize .. => true
  | .state3dPushConstantAllocVs .. => true
  | .state3dPushConstantAllocHs .. => true
  | .state3dPushConstantAllocDs .. => true
  | .state3dPushConstantAllocGs .. => true
  | .state3dPushConstantAllocPs .. => true
  | .state3dSoDeclList .. => true
  | .state3dSoBuffer .. => true
  | .state3dSamplePattern .. => true
  | .state3dUrbClear .. => true
  | .pipeControl .. => true
  | .primitive3d .. => true
  | .mfxPipeModeSelect .. => true
  | .mfxSurfaceState .. => true
  | .mfxPipeBufAddrState .. => true
  | .mfxIndObjBaseAddrState .. => true
  | .mfxBspBufBaseAddrState .. => true
  | .mfx005Unnamed .. => true
  | .mfxStatePointer .. => true
  | .mfdItObject .. => true
  | .mfxAvcImgState .. => true
  | .mfxAvcQmState .. => true
  | .mfxAvcDirectmodeState .. => true
  | .mfxAvcSliceState .. => true
  | .mfxAvcRefIdxState .. => true
  | .mfxAvcWeightoffsetState .. => true
  | .mfdAvcBsdObject .. => true
  | .mfcAvcFqmState .. => true
  | .mfcAvcPakInsertObject .. => true
  | .mfcAvcPakObject .. => true
  | .mfxVc1PicState .. => true
  | .mfxVc1PredPipeState .. => true
  | .mfxVc1DirectmodeState .. => true
  | .mfdVc1BsdObject .. => true
  | .mfxMpeg2PicState .. => true
  | .mfxMpeg2QmState .. => true
  | .mfdMpeg2BsdObject .. => true
  | .mfxSingleDwUnnamed => true

/-- Every reserved field is zero, every length is the legal one, no reserved value is held. Commands whose
fields are not in the source have no field to check (30_encoding.md R160). -/
def Instr.wellFormed : Instr → Bool
  | .pipelineSelect reserved select => reserved == 0 && select != 3
  | .stateBaseAddress h g sf dy ind ins gb db ib nb =>
      h.wf 8 && g.wf && sf.wf && dy.wf && ind.wf && ins.wf && gb.wf && db.wf && ib.wf && nb.wf
  | .stateSip h _ reserved => h.wf 0 && reserved == 0
  | .swtessBaseAddress h _ mocs reserved => h.wf 0 && mocsWf mocs && reserved == 0
  | .statePrefetch h pointer reserved count =>
      h.wf 0 && reserved == 0 && decide (pointer.toNat * 64 + 64 * (count.toNat + 1) ≤ 4294967296)
  | .gpgpuCsrBaseAddress _ => true
  | .miNoop _ => true
  | .miUserInterrupt _ => true
  | .miWaitForEvent _ => true
  | .miOpcode04hUnnamed _ => true
  | .miArbCheck _ => true
  | .miReportHead _ => true
  | .miArbOnOff _ => true
  | .miBatchBufferEnd _ => true
  | .miSuspendFlush _ => true
  | .miPredicate _ => true
  | .miTopologyFilter _ => true
  | .miSetAppid _ => true
  | .miDisplayFlip _ => true
  | .miSemaphoreMbox _ => true
  | .miSetContext _ => true
  | .miMath _ => true
  | .miStoreDataImm _ => true
  | .miStoreDataIndex _ => true
  | .miLoadRegisterImm _ => true
  | .miUpdateGtt _ => true
  | .miStoreRegisterMem _ => true
  | .miFlushDw _ => true
  | .miClflush _ => true
  | .miReportPerfCount _ => true
  | .miLoadRegisterMem _ => true
  | .miBatchBufferStart _ => true
  | .miConditionalBatchBufferEnd _ => true
  | .xySetupBlt _ => true
  | .xySetupClipBlt _ => true
  | .xySetupMonoPatternSlBlt _ => true
  | .xyPixelBlt _ => true
  | .xyScanlinesBlt _ => true
  | .xyTextBlt _ => true
  | .xyTextImmediateBlt _ => true
  | .colorBlt _ => true
  | .srcCopyBlt _ => true
  | .xyColorBlt _ => true
  | .xyPatBlt _ => true
  | .xyMonoPatBlt _ => true
  | .xySrcCopyBlt _ => true
  | .xyMonoSrcCopyBlt _ => true
  | .xyFullBlt _ => true
  | .xyFullMonoSrcBlt _ => true
  | .xyFullMonoPatternBlt _ => true
  | .xyFullMonoPatternMonoSrcBlt _ => true
  | .xyMonoPatFixedBlt _ => true
  | .xyMonoSrcCopyImmediateBlt _ => true
  | .xyPatBltImmediate _ => true
  | .xySrcCopyChromaBlt _ => true
  | .xyFullImmediatePatternBlt _ => true
  | .xyFullMonoSrcImmediatePatternBlt _ => true
  | .xyPatChromaBlt _ => true
  | .xyPatChromaBltImmediate _ => true
  | .state3dClearParams _ => true
  | .state3dDepthBuffer _ => true
  | .state3dStencilBuffer _ => true
  | .state3dHierDepthBuffer _ => true
  | .state3dVertexBuffers _ => true
  | .state3dVertexElements _ => true
  | .state3dIndexBuffer _ => true
  | .state3dVfStatistics _ => true
  | .state3dViewportStatePointers _ => true
  | .state3dVs _ => true
  | .state3dGs _ => true
  | .state3dClip _ => true
  | .state3dSf _ => true
  | .state3dWm _ => true
  | .state3dConstantVs _ => true
  | .state3dConstantGs _ => true
  | .state3dConstantPs _ => true
  | .state3dSampleMask _ => true
  | .state3dConstantHs _ => true
  | .state3dConstantDs _ => true
  | .state3dHs _ => true
  | .state3dTe _ => true
  | .state3dDs _ => true
  | .state3dStreamout _ => true
  | .state3dSbe _ => true
  | .state3dPs _ => true
  | .state3dViewportStatePointersSfClip _ => true
  | .state3dViewportStatePointersCc _ => true
  | .state3dBlendStatePointers _ => true
  | .state3dDepthStencilStatePointers _ => true
  | .state3dBindingTablePointersVs _ => true
  | .state3dBindingTablePointersHs _ => true
  | .state3dBindingTablePointersDs _ => true
  | .state3dBindingTablePointersGs _ => true
  | .state3dBindingTablePointersPs _ => true
  | .state3dSamplerStatePointersVs _ => true
  | .state3dSamplerStatePointersHs _ => true
  | .state3dSamplerStatePointersDs _ => true
  | .state3dSamplerStatePointersGs _ => true
  | .state3dUrbVs _ => true
  | .state3dUrbHs _ => true
  | .state3dUrbDs _ => true
  | .state3dUrbGs _ => true
  | .state3dWmChromaKey _ => true
  | .state3dPsBlend _ => true
  | .state3dWmDepthStencil _ => true
  | .state3dPsExtra _ => true
  | .state3dRaster _ => true
  | .state3dSbeSwiz _ => true
  | .state3dWmHzOp _ => true
  | .state3dInt _ => true
  | .state3dDrawingRectangle _ => true
  | .state3dSamplerPaletteLoad0 _ => true
  | .state3dChromaKey _ => true
  | .state3dPolyStippleOffset _ => true
  | .state3dPolyStipplePattern _ => true
  | .state3dLineStipple _ => true
  | .state3dAaLineParams _ => true
  | .state3dGsSvbIndex _ => true
  | .state3dSamplerPaletteLoad1 _ => true
  | .state3dMultisample _ => true
  | .state3dStencilBufferNp _ => true
  | .state3dHierDepthBufferNp _ => true
  | .state3dClearParamsNp _ => true
  | .state3dMonofilterSize _ => true
  | .state3dPushConstantAllocVs _ => true
  | .state3dPushConstantAllocHs _ => true
  | .state3dPushConstantAllocDs _ => true
  | .state3dPushConstantAllocGs _ => true
  | .state3dPushConstantAllocPs _ => true
  | .state3dSoDeclList _ => true
  | .state3dSoBuffer _ => true
  | .state3dSamplePattern _ => true
  | .state3dUrbClear _ => true
  | .pipeControl _ => true
  | .primitive3d _ => true
  | .mfxPipeModeSelect _ => true
  | .mfxSurfaceState _ => true
  | .mfxPipeBufAddrState _ => true
  | .mfxIndObjBaseAddrState _ => true
  | .mfxBspBufBaseAddrState _ => true
  | .mfx005Unnamed _ => true
  | .mfxStatePointer _ => true
  | .mfdItObject _ => true
  | .mfxAvcImgState _ => true
  | .mfxAvcQmState _ => true
  | .mfxAvcDirectmodeState _ => true
  | .mfxAvcSliceState _ => true
  | .mfxAvcRefIdxState _ => true
  | .mfxAvcWeightoffsetState _ => true
  | .mfdAvcBsdObject _ => true
  | .mfcAvcFqmState _ => true
  | .mfcAvcPakInsertObject _ => true
  | .mfcAvcPakObject _ => true
  | .mfxVc1PicState _ => true
  | .mfxVc1PredPipeState _ => true
  | .mfxVc1DirectmodeState _ => true
  | .mfdVc1BsdObject _ => true
  | .mfxMpeg2PicState _ => true
  | .mfxMpeg2QmState _ => true
  | .mfdMpeg2BsdObject _ => true
  | .mfxSingleDwUnnamed => true
  | .mediaSubtype2hUnmapped data => (Instr.mediaSubtype2hUnmapped data).encodable

end Sys2Proof
end

