-- ==== Sys2Proof/Certificates/Slice0/Obligations.lean ====
section
/-! DEFINITION. The statements for the provers, each from the numbered rules it names. -/

open Sys2Proof Sys2Proof.Machine

/-- One to ten DWords written out from the encodings of PIPELINE_SELECT, STATE_BASE_ADDRESS, STATE_SIP,
SWTESS_BASE_ADDRESS, STATE_PREFETCH, MI_NOOP, an MI, a 2D, a 3D, a media and an MFX command decode to that command
with those operands. (R190; R212; R225; R215; R220; R230; R255; R280; R420; R401; R476). -/
def Obligations.DecodesWordsOfTheTables : Prop :=
  decode .render [0x69040001] = .ok (.pipelineSelect 0 1) ∧
  decode .render [0x61010008, 0x10000551, 0x20000101, 0x00000000, 0x40000001, 0x50000401, 0x1FFFF001, 0x00000000,
      0x00000001, 0x60000001] =
    .ok (.stateBaseAddress ⟨0, 8⟩ ⟨0x10000, 5, 5, 0, 0, 1⟩ ⟨0x20000, 1, 0, 1⟩ ⟨0, 0, 0, 0⟩ ⟨0x40000, 0, 0, 1⟩
      ⟨0x50000, 4, 0, 1⟩ ⟨0x1FFFF, 0, 1⟩ ⟨0, 0, 0⟩ ⟨0, 0, 1⟩ ⟨0x60000, 0, 1⟩) ∧
  decode .render [0x61020000, 0x00001230] = .ok (.stateSip ⟨0, 0⟩ 0x123 0) ∧
  decode .render [0x61030000, 0x7654A100] = .ok (.swtessBaseAddress ⟨0, 0⟩ 0x7654A 1 0) ∧
  decode .render [0x60030000, 0x00123447] = .ok (.statePrefetch ⟨0, 0⟩ 0x48D1 0 7) ∧
  decode .blitter [0x00000000] = .ok (.miNoop 0) ∧
  decode .video [0x18800001] = .ok (.miBatchBufferStart 1) ∧
  decode .blitter [0x54000004] = .ok (.xyColorBlt 4) ∧
  decode .render [0x7A000003] = .ok (.pipeControl 3) ∧
  decode .render [0x71000002] = .ok (.mediaSubtype2hUnmapped 0x1000002) ∧
  decode .video [0x71000002] = .ok (.mfxAvcImgState 2)

/-- For every command the formats can hold, the parser that has it decodes the DWords the encoder writes to that very
command: no bit of an encoding is dropped. (30_encoding.md R140 to R149; 30_encoding.md R163; R147; R148; R149). -/
def Obligations.DecodeOfEncodeIsTheCommand : Prop :=
  ∀ i : Instr, i.encodable = true → decode i.homeEngine (encode i) = .ok i

/-- Whatever DWords any parser decodes to a command, the command is encodable and its encoding is exactly the DWords that
hold its fields: decoding is injective and ignores no bit of them. (30_encoding.md R140 to R149; 30_encoding.md R163;
R147; R148; R149). -/
def Obligations.EncodeOfDecodeIsTheWords : Prop :=
  ∀ (e : Engine) (w : Word) (body : List Word) (i : Instr), decode e (w :: body) = .ok i →
    i.encodable = true ∧ encode i = w :: body.take i.bodyWords

/-- On the render parser a client 3 header of sub-type 0 decodes to STATE_PREFETCH, STATE_BASE_ADDRESS, STATE_SIP,
SWTESS_BASE_ADDRESS or GPGPU_CSR_BASE_ADDRESS by its opcode and sub-opcode, one of sub-type 1 to PIPELINE_SELECT, and
every other tuple is rejected as a reserved opcode. (R229). -/
def Obligations.CommonCommandSpaceDecodesAsTabled : Prop :=
  ∀ (w : Word) (body : List Word), 9 ≤ body.length → field w 29 3 = 3 →
    (field w 27 2 = 0 →
      (field w 24 3 = 0 ∧ field w 16 8 = 0x03 → ∃ h p r c, decode .render (w :: body) = .ok (.statePrefetch h p r c)) ∧
      (field w 24 3 = 1 ∧ field w 16 8 = 0x01 →
        ∃ h g a b c d k l m n, decode .render (w :: body) = .ok (.stateBaseAddress h g a b c d k l m n)) ∧
      (field w 24 3 = 1 ∧ field w 16 8 = 0x02 → ∃ h p r, decode .render (w :: body) = .ok (.stateSip h p r)) ∧
      (field w 24 3 = 1 ∧ field w 16 8 = 0x03 →
        ∃ h b m r, decode .render (w :: body) = .ok (.swtessBaseAddress h b m r)) ∧
      (field w 24 3 = 1 ∧ field w 16 8 = 0x04 → ∃ d, decode .render (w :: body) = .ok (.gpgpuCsrBaseAddress d)) ∧
      (¬ (field w 24 3 = 0 ∧ field w 16 8 = 0x03) →
        ¬ (field w 24 3 = 1 ∧ 0x01 ≤ (field w 16 8).toNat ∧ (field w 16 8).toNat ≤ 0x04) →
        decode .render (w :: body) = .bad .reservedOpcode)) ∧
    (field w 27 2 = 1 →
      (field w 24 3 = 1 ∧ field w 16 8 = 0x04 → ∃ r p, decode .render (w :: body) = .ok (.pipelineSelect r p)) ∧
      (¬ (field w 24 3 = 1 ∧ field w 16 8 = 0x04) → decode .render (w :: body) = .bad .reservedOpcode))

/-- On the render parser client 7 is the fulsim encoding and clients 1, 4, 5 and 6 are reserved; on the video parser
every client but 0 and 3, and on the blitter every client but 0 and 2, is reserved. (R147; R148; R149; R795). -/
def Obligations.OtherClientsAreRejected : Prop :=
  ∀ (w : Word) (body : List Word),
    (field w 29 3 = 7 → decode .render (w :: body) = .bad .fulsimEncoding) ∧
    (field w 29 3 = 1 ∨ field w 29 3 = 4 ∨ field w 29 3 = 5 ∨ field w 29 3 = 6 →
      decode .render (w :: body) = .bad .reservedClient) ∧
    (field w 29 3 ≠ 0 → field w 29 3 ≠ 3 → decode .video (w :: body) = .bad .reservedClient) ∧
    (field w 29 3 ≠ 0 → field w 29 3 ≠ 2 → decode .blitter (w :: body) = .bad .reservedClient)

/-- With no event scheduled and the parser whose turn it is not idle, if the DWords at its pc decode to a command, the
step is the execution of that command in that state; nothing else is added around it. (R45; R830; 10_state.md R45 to
R47; 60_exceptions.md R771). -/
def Obligations.StepRunsTheDecodedCommand : Prop :=
  ∀ (s : State) (h : Word) (body : List Word) (i : Instr), s.schedule = [] → (s.parser s.turn).idle = false →
    s.readWord s.turn (s.parser s.turn).pc = .ok h →
    s.readWords s.turn ((s.parser s.turn).pc + 4) i.bodyWords = .ok body →
    decode s.turn (h :: body) = .ok i → step s = exec i s

/-- With no event scheduled and the parser not idle, a header at pc that decodes to no command is refused with the reason
of the decode error, whatever follows it. (R157; 60_exceptions.md R770; 60_exceptions.md R771). -/
def Obligations.StepRefusesWhatDoesNotDecode : Prop :=
  ∀ (s : State) (h : Word) (d : DecodeError), s.schedule = [] → (s.parser s.turn).idle = false →
    s.readWord s.turn (s.parser s.turn).pc = .ok h → decodeHeader s.turn h = .bad d →
    step s = .refused (decodeRefusal d)

/-- With no event scheduled and the parser not idle, if the page of pc has no valid mapping in the table the parser uses,
the step faults with GTTError of that address. (R765; R98). -/
def Obligations.FetchFromUnmappedPageFaults : Prop :=
  ∀ (s : State), s.schedule = [] → (s.parser s.turn).idle = false →
    (s.tableOf s.turn).translate (s.parser s.turn).pc = none → step s = .fault (.gttError (s.parser s.turn).pc)

/-- With no event scheduled, a parser whose ring is not valid, or whose batch buffer is inactive and whose head equals
its tail, stays as it is. That the step then answers the same state is the model's choice (log entry 16). (R47; R85;
R831). -/
def Obligations.IdleParserDoesNotStep : Prop :=
  ∀ (s : State), s.schedule = [] →
    ((s.parser s.turn).ring.valid = false ∨
      ((s.parser s.turn).bb.active = false ∧ (s.parser s.turn).ring.head = (s.parser s.turn).ring.tail)) →
    step s = .next s

/-- For every table word that decodes to a command, the step of the state with that word placed where the next step
fetches is the execution of that command in that state. How the word is placed is the model's choice (log entry 18).
(R802; R45; R100). -/
def Obligations.PlacedCommandRunsFirst : Prop :=
  ∀ (nbits w : Nat) (i : Instr), decodeTableWord nbits w = some i →
    step (State.reset.withFetchWord nbits w) = exec i (State.reset.withFetchWord nbits w)

/-- DW0 0x6904xxxx is PIPELINE_SELECT with bits 15:2 and 1:0. On the render parser, with its DWord before the tail: a
nonzero bit of 15:2 is refused NonZeroMBZ; value 3 is refused ReservedValue; else S.PipelineSelect takes the value,
the URB allocation, URB fences and CURBE contents and the entries of the URB are gone, the head moves 1 DWord, and
nothing else changes. That the flush changes nothing and that value 3 is refused are the spec's own decisions D22 and
D5; what is opaque and how it is lost is DEDUCED (log entries 25, 36, 50). (R190; 10_state.md R81). -/
def Obligations.PipelineSelectSelects : Prop :=
  (∀ d : BitVec 16, decode .render [encodeHeader16 0x6904#16 d] =
      .ok (.pipelineSelect (d.extractLsb' 2 14) (d.extractLsb' 0 2))) ∧
  ∀ (s : State) (r : BitVec 14) (v : BitVec 2), s.turn = .render → s.render.available 1 = true →
    (r ≠ 0 → exec (.pipelineSelect r v) s = .refused .nonZeroMbz) ∧
    (r = 0 → v = 3 → exec (.pipelineSelect r v) s = .refused .reservedValue) ∧
    (r = 0 → v ≠ 3 → exec (.pipelineSelect r v) s = .next { s with
      render := s.render.advance 1
      gpe := { s.gpe with pipelineSelect := .holds v }
      urb := []
      opaqueState := s.opaqueState.filter fun x =>
        !decide (x.item = .urbAllocation ∨ x.item = .urbFences ∨ x.item = .curbe) })

/-- On the render parser, with its ten DWords before the tail and every reserved bit and MOCS bit 3 zero: each variable
takes its field where the Modify Enable of its DWord is 1 and keeps its value where it is 0. Where the indirect
object bound (unless 0 or FFFFFh) and the instruction bound (unless 0) would then hold above their bases, the command
completes: pointers set before a change of base become unset, the head moves 10 DWords, nothing else changes. Which
items are such pointers is log entry 25; that a base written with its old value stales none, and that unset to set
does, is DEDUCED (log entry 26). A header other than DW0[15:8] = 0 and DWord Length 8 is refused:
DisabledDWordsOfStateBaseAddress says so. (R201; R211). -/
def Obligations.StateBaseAddressUpdatesEnabledVariables : Prop :=
  ∀ (s : State) (g : SbaGeneral) (sf dy ind ins : SbaBase) (gb db ib nb : SbaBound) (v : Gpe), s.turn = .render →
    s.render.available 10 = true →
    g.reserved = 0 → g.mocs.getLsbD 3 = false → g.dataPortMocs.getLsbD 3 = false →
    sf.reserved = 0 → sf.mocs.getLsbD 3 = false → dy.reserved = 0 → dy.mocs.getLsbD 3 = false →
    ind.reserved = 0 → ind.mocs.getLsbD 3 = false → ins.reserved = 0 → ins.mocs.getLsbD 3 = false →
    gb.reserved = 0 → db.reserved = 0 → ib.reserved = 0 → nb.reserved = 0 →
    v = { s.gpe with
      generalStateBase := if g.modifyEnable = 1 then .holds g.base else s.gpe.generalStateBase
      generalStateMocs := if g.modifyEnable = 1 then .holds g.mocs else s.gpe.generalStateMocs
      statelessDataPortMocs := if g.modifyEnable = 1 then .holds g.dataPortMocs else s.gpe.statelessDataPortMocs
      forceWriteThru := if g.modifyEnable = 1 then .holds g.forceWriteThru else s.gpe.forceWriteThru
      surfaceStateBase := if sf.modifyEnable = 1 then .holds sf.base else s.gpe.surfaceStateBase
      surfaceStateMocs := if sf.modifyEnable = 1 then .holds sf.mocs else s.gpe.surfaceStateMocs
      dynamicStateBase := if dy.modifyEnable = 1 then .holds dy.base else s.gpe.dynamicStateBase
      dynamicStateMocs := if dy.modifyEnable = 1 then .holds dy.mocs else s.gpe.dynamicStateMocs
      indirectObjectBase := if ind.modifyEnable = 1 then .holds ind.base else s.gpe.indirectObjectBase
      indirectObjectMocs := if ind.modifyEnable = 1 then .holds ind.mocs else s.gpe.indirectObjectMocs
      instructionBase := if ins.modifyEnable = 1 then .holds ins.base else s.gpe.instructionBase
      instructionMocs := if ins.modifyEnable = 1 then .holds ins.mocs else s.gpe.instructionMocs
      generalStateBound := if gb.modifyEnable = 1 then .holds gb.bound else s.gpe.generalStateBound
      dynamicStateBound := if db.modifyEnable = 1 then .holds db.bound else s.gpe.dynamicStateBound
      indirectObjectBound := if ib.modifyEnable = 1 then .holds ib.bound else s.gpe.indirectObjectBound
      instructionBound := if nb.modifyEnable = 1 then .holds nb.bound else s.gpe.instructionBound } →
    (∀ b a, v.indirectObjectBound = .holds b → v.indirectObjectBase = .holds a →
      b = 0 ∨ b = 0xFFFFF ∨ a.toNat < b.toNat) →
    (∀ b a, v.instructionBound = .holds b → v.instructionBase = .holds a → b = 0 ∨ a.toNat < b.toNat) →
    exec (.stateBaseAddress ⟨0, 8⟩ g sf dy ind ins gb db ib nb) s = .next { s with
      render := s.render.advance 10
      gpe := v
      opaqueState :=
        if v.generalStateBase = s.gpe.generalStateBase ∧ v.surfaceStateBase = s.gpe.surfaceStateBase ∧
          v.dynamicStateBase = s.gpe.dynamicStateBase ∧ v.indirectObjectBase = s.gpe.indirectObjectBase ∧
          v.instructionBase = s.gpe.instructionBase then s.opaqueState
        else s.opaqueState.filter fun x => !staleAfterBaseChange.contains x.item }

/-- Where every other check passes, a nonzero instruction bound, or an indirect object bound other than 0 and FFFFFh,
that would hold a value not greater than its base refuses the command with BoundNotAboveBase. (R201; R115; R116;
60_exceptions.md R770). -/
def Obligations.StateBaseAddressRefusesBoundNotAboveBase : Prop :=
  ∀ (s : State) (g : SbaGeneral) (sf dy ind ins : SbaBase) (gb db ib nb : SbaBound) (v : Gpe) (b a : BitVec 20), s.turn = .render →
    s.render.available 10 = true →
    g.reserved = 0 → g.mocs.getLsbD 3 = false → g.dataPortMocs.getLsbD 3 = false →
    sf.reserved = 0 → sf.mocs.getLsbD 3 = false → dy.reserved = 0 → dy.mocs.getLsbD 3 = false →
    ind.reserved = 0 → ind.mocs.getLsbD 3 = false → ins.reserved = 0 → ins.mocs.getLsbD 3 = false →
    gb.reserved = 0 → db.reserved = 0 → ib.reserved = 0 → nb.reserved = 0 →
    v = { s.gpe with
      generalStateBase := if g.modifyEnable = 1 then .holds g.base else s.gpe.generalStateBase
      generalStateMocs := if g.modifyEnable = 1 then .holds g.mocs else s.gpe.generalStateMocs
      statelessDataPortMocs := if g.modifyEnable = 1 then .holds g.dataPortMocs else s.gpe.statelessDataPortMocs
      forceWriteThru := if g.modifyEnable = 1 then .holds g.forceWriteThru else s.gpe.forceWriteThru
      surfaceStateBase := if sf.modifyEnable = 1 then .holds sf.base else s.gpe.surfaceStateBase
      surfaceStateMocs := if sf.modifyEnable = 1 then .holds sf.mocs else s.gpe.surfaceStateMocs
      dynamicStateBase := if dy.modifyEnable = 1 then .holds dy.base else s.gpe.dynamicStateBase
      dynamicStateMocs := if dy.modifyEnable = 1 then .holds dy.mocs else s.gpe.dynamicStateMocs
      indirectObjectBase := if ind.modifyEnable = 1 then .holds ind.base else s.gpe.indirectObjectBase
      indirectObjectMocs := if ind.modifyEnable = 1 then .holds ind.mocs else s.gpe.indirectObjectMocs
      instructionBase := if ins.modifyEnable = 1 then .holds ins.base else s.gpe.instructionBase
      instructionMocs := if ins.modifyEnable = 1 then .holds ins.mocs else s.gpe.instructionMocs
      generalStateBound := if gb.modifyEnable = 1 then .holds gb.bound else s.gpe.generalStateBound
      dynamicStateBound := if db.modifyEnable = 1 then .holds db.bound else s.gpe.dynamicStateBound
      indirectObjectBound := if ib.modifyEnable = 1 then .holds ib.bound else s.gpe.indirectObjectBound
      instructionBound := if nb.modifyEnable = 1 then .holds nb.bound else s.gpe.instructionBound } →
    (v.indirectObjectBound = .holds b ∧ v.indirectObjectBase = .holds a ∧ b ≠ 0 ∧ b ≠ 0xFFFFF ∧ b.toNat ≤ a.toNat) ∨
      (v.instructionBound = .holds b ∧ v.instructionBase = .holds a ∧ b ≠ 0 ∧ b.toNat ≤ a.toNat) →
    exec (.stateBaseAddress ⟨0, 8⟩ g sf dy ind ins gb db ib nb) s = .refused .boundNotAboveBase

/-- Where STATE_BASE_ADDRESS completes, the variables of every DWord whose Modify Enable is 0 keep their values exactly;
a DWord Length other than 8 is refused BadLength; with Length 8, a reserved bit (DW0[15:8] among them) or bit 3 of a
control state field that is 1 in any DWord, enabled or not, is refused NonZeroMBZ (R201 checks bit 3 on every DWord;
that bit 3 is reserved is the spec's decision D12, log entry 31); and otherwise the address, control state and bound
fields of a DWord that is not enabled do not matter. (R210; R201; R200; R156; 60_exceptions.md R771). -/
def Obligations.DisabledDWordsOfStateBaseAddress : Prop :=
  (∀ (s t : State) (h : LenHeader) (g : SbaGeneral) (sf dy ind ins : SbaBase) (gb db ib nb : SbaBound),
    exec (.stateBaseAddress h g sf dy ind ins gb db ib nb) s = .next t →
    (g.modifyEnable = 0 → t.gpe.generalStateBase = s.gpe.generalStateBase ∧
      t.gpe.generalStateMocs = s.gpe.generalStateMocs ∧ t.gpe.statelessDataPortMocs = s.gpe.statelessDataPortMocs ∧
      t.gpe.forceWriteThru = s.gpe.forceWriteThru) ∧
    (sf.modifyEnable = 0 → t.gpe.surfaceStateBase = s.gpe.surfaceStateBase ∧
      t.gpe.surfaceStateMocs = s.gpe.surfaceStateMocs) ∧
    (dy.modifyEnable = 0 → t.gpe.dynamicStateBase = s.gpe.dynamicStateBase ∧
      t.gpe.dynamicStateMocs = s.gpe.dynamicStateMocs) ∧
    (ind.modifyEnable = 0 → t.gpe.indirectObjectBase = s.gpe.indirectObjectBase ∧
      t.gpe.indirectObjectMocs = s.gpe.indirectObjectMocs) ∧
    (ins.modifyEnable = 0 → t.gpe.instructionBase = s.gpe.instructionBase ∧
      t.gpe.instructionMocs = s.gpe.instructionMocs) ∧
    (gb.modifyEnable = 0 → t.gpe.generalStateBound = s.gpe.generalStateBound) ∧
    (db.modifyEnable = 0 → t.gpe.dynamicStateBound = s.gpe.dynamicStateBound) ∧
    (ib.modifyEnable = 0 → t.gpe.indirectObjectBound = s.gpe.indirectObjectBound) ∧
    (nb.modifyEnable = 0 → t.gpe.instructionBound = s.gpe.instructionBound)) ∧
  (∀ (s : State) (h : LenHeader) (g : SbaGeneral) (sf dy ind ins : SbaBase) (gb db ib nb : SbaBound),
    s.turn = .render → h.dwordLength ≠ 8 →
    exec (.stateBaseAddress h g sf dy ind ins gb db ib nb) s = .refused .badLength) ∧
  (∀ (s : State) (h : LenHeader) (g : SbaGeneral) (sf dy ind ins : SbaBase) (gb db ib nb : SbaBound),
    s.turn = .render → s.render.available 10 = true → h.dwordLength = 8 →
    h.reserved ≠ 0 ∨ g.reserved ≠ 0 ∨ sf.reserved ≠ 0 ∨ dy.reserved ≠ 0 ∨ ind.reserved ≠ 0 ∨ ins.reserved ≠ 0 ∨ gb.reserved ≠ 0 ∨
      db.reserved ≠ 0 ∨ ib.reserved ≠ 0 ∨ nb.reserved ≠ 0 ∨ g.mocs.getLsbD 3 = true ∨ g.dataPortMocs.getLsbD 3 = true ∨
      sf.mocs.getLsbD 3 = true ∨ dy.mocs.getLsbD 3 = true ∨ ind.mocs.getLsbD 3 = true ∨ ins.mocs.getLsbD 3 = true →
    exec (.stateBaseAddress h g sf dy ind ins gb db ib nb) s = .refused .nonZeroMbz) ∧
  (∀ (s : State) (h : LenHeader) (g g' : SbaGeneral) (b b' : SbaBase) (k k' : SbaBound),
    g.modifyEnable = 0 → g'.modifyEnable = 0 → g.reserved = 0 → g'.reserved = 0 →
    g.mocs.getLsbD 3 = false → g'.mocs.getLsbD 3 = false → g.dataPortMocs.getLsbD 3 = false →
    g'.dataPortMocs.getLsbD 3 = false → b.modifyEnable = 0 → b'.modifyEnable = 0 → b.reserved = 0 → b'.reserved = 0 →
    b.mocs.getLsbD 3 = false → b'.mocs.getLsbD 3 = false → k.modifyEnable = 0 → k'.modifyEnable = 0 →
    k.reserved = 0 → k'.reserved = 0 → ∀ (sf dy ind ins : SbaBase) (gb db ib nb : SbaBound),
    exec (.stateBaseAddress h g sf dy ind ins gb db ib nb) s = exec (.stateBaseAddress h g' sf dy ind ins gb db ib nb) s ∧
    exec (.stateBaseAddress h g b dy ind ins gb db ib nb) s = exec (.stateBaseAddress h g b' dy ind ins gb db ib nb) s ∧
    exec (.stateBaseAddress h g sf b ind ins gb db ib nb) s = exec (.stateBaseAddress h g sf b' ind ins gb db ib nb) s ∧
    exec (.stateBaseAddress h g sf dy b ins gb db ib nb) s = exec (.stateBaseAddress h g sf dy b' ins gb db ib nb) s ∧
    exec (.stateBaseAddress h g sf dy ind b gb db ib nb) s = exec (.stateBaseAddress h g sf dy ind b' gb db ib nb) s ∧
    exec (.stateBaseAddress h g sf dy ind ins k db ib nb) s = exec (.stateBaseAddress h g sf dy ind ins k' db ib nb) s ∧
    exec (.stateBaseAddress h g sf dy ind ins gb k ib nb) s = exec (.stateBaseAddress h g sf dy ind ins gb k' ib nb) s ∧
    exec (.stateBaseAddress h g sf dy ind ins gb db k nb) s = exec (.stateBaseAddress h g sf dy ind ins gb db k' nb) s ∧
    exec (.stateBaseAddress h g sf dy ind ins gb db ib k) s = exec (.stateBaseAddress h g sf dy ind ins gb db ib k') s)

/-- DWords 0x61020000 and DW1 are STATE_SIP with DW1[31:4] and DW1[3:0]. On the render parser, with its two DWords before
the tail: a DWord Length other than 0 is refused BadLength, a reserved bit that is 1 NonZeroMBZ; else S.SIP takes
DW1[31:4], the head moves 2 DWords and nothing else changes. (40_common_commands.md R225; R156). -/
def Obligations.StateSipSetsTheSystemPointer : Prop :=
  (∀ w : Word, decode .render [0x61020000, w] = .ok (.stateSip ⟨0, 0⟩ (field w 4 28) (field w 0 4))) ∧
  ∀ (s : State) (h : LenHeader) (p : BitVec 28) (r : BitVec 4), s.turn = .render → s.render.available 2 = true →
    (h.dwordLength ≠ 0 → exec (.stateSip h p r) s = .refused .badLength) ∧
    (h.dwordLength = 0 → h.reserved ≠ 0 ∨ r ≠ 0 → exec (.stateSip h p r) s = .refused .nonZeroMbz) ∧
    (h.dwordLength = 0 → h.reserved = 0 → r = 0 → exec (.stateSip h p r) s = .next { s with
      render := s.render.advance 2
      gpe := { s.gpe with sip := .holds p } })

/-- DWords 0x61030000 and DW1 are SWTESS_BASE_ADDRESS with DW1[31:12], DW1[11:8] and DW1[7:0]. On the render parser, with
its two DWords before the tail: a DWord Length other than 0 is refused BadLength, a reserved bit (DW0[15:8],
DW1[7:0], DW1[11]) that is 1 NonZeroMBZ; else S.SWTessBase and S.SWTessMOCS take their fields unconditionally, the
head moves 2 DWords and nothing else changes. That bit 3 of the control state must be zero is the spec's decision D12
(DEDUCED, log entry 31), that the flush changes nothing D22, that BadLength comes before NonZeroMBZ R156 with R771
(D8). (R215; R200; R156; 60_exceptions.md R771). -/
def Obligations.SwtessBaseAddressSetsBaseAndControl : Prop :=
  (∀ w : Word, decode .render [0x61030000, w] =
      .ok (.swtessBaseAddress ⟨0, 0⟩ (field w 12 20) (field w 8 4) (field w 0 8))) ∧
  ∀ (s : State) (h : LenHeader) (b : BitVec 20) (m : BitVec 4) (r : BitVec 8), s.turn = .render →
    s.render.available 2 = true →
    (h.dwordLength ≠ 0 → exec (.swtessBaseAddress h b m r) s = .refused .badLength) ∧
    (h.dwordLength = 0 → h.reserved ≠ 0 ∨ r ≠ 0 ∨ m.getLsbD 3 = true →
      exec (.swtessBaseAddress h b m r) s = .refused .nonZeroMbz) ∧
    (h.dwordLength = 0 → h.reserved = 0 → r = 0 → m.getLsbD 3 = false →
      exec (.swtessBaseAddress h b m r) s = .next { s with
        render := s.render.advance 2
        gpe := { s.gpe with swTessBase := .holds b, swTessMocs := .holds m } })

/-- DWords 0x60030000 and DW1 are STATE_PREFETCH with DW1[31:6], DW1[5:3] and DW1[2:0]. On the render parser, with its
two DWords before the tail: a DWord Length other than 0 is refused BadLength, a reserved bit that is 1 NonZeroMBZ, a
range past 2^32 AddressOverflow; else only the head moves, 2 DWords: no memory is read and no fault is raised for an
unmapped page. That the hint has no effect is the spec's decision D21 (DEDUCED, log entry 43), AddressOverflow is D14
(log entry 29), that BadLength comes first R156 with R771 (D8). (R220; R156; R111; 60_exceptions.md R771). -/
def Obligations.StatePrefetchOnlyAdvances : Prop :=
  (∀ w : Word, decode .render [0x60030000, w] =
      .ok (.statePrefetch ⟨0, 0⟩ (field w 6 26) (field w 3 3) (field w 0 3))) ∧
  ∀ (s : State) (h : LenHeader) (p : BitVec 26) (r c : BitVec 3), s.turn = .render → s.render.available 2 = true →
    (h.dwordLength ≠ 0 → exec (.statePrefetch h p r c) s = .refused .badLength) ∧
    (h.dwordLength = 0 → h.reserved ≠ 0 ∨ r ≠ 0 → exec (.statePrefetch h p r c) s = .refused .nonZeroMbz) ∧
    (h.dwordLength = 0 → h.reserved = 0 → r = 0 → 4294967296 < 64 * p.toNat + 64 * (c.toNat + 1) →
      exec (.statePrefetch h p r c) s = .refused .addressOverflow) ∧
    (h.dwordLength = 0 → h.reserved = 0 → r = 0 → 64 * p.toNat + 64 * (c.toNat + 1) ≤ 4294967296 →
      exec (.statePrefetch h p r c) s = .next { s with render := s.render.advance 2 })

/-- PIPELINE_SELECT, STATE_BASE_ADDRESS, STATE_SIP, SWTESS_BASE_ADDRESS and STATE_PREFETCH met by the video parser are
refused as reserved opcodes and by the blitter as a reserved client. (R147; R148; R149; 30_encoding.md R161). -/
def Obligations.CommonCommandsBelongToTheRenderParser : Prop :=
  ∀ (s : State) (i : Instr),
    (∃ r v, i = .pipelineSelect r v) ∨ (∃ h g a b c d k l m n, i = .stateBaseAddress h g a b c d k l m n) ∨
      (∃ h p r, i = .stateSip h p r) ∨ (∃ h b m r, i = .swtessBaseAddress h b m r) ∨
      (∃ h p r c, i = .statePrefetch h p r c) →
    (s.turn = .video → exec i s = .refused .reservedOpcode) ∧
    (s.turn = .blitter → exec i s = .refused .reservedClient)

/-- Outside a batch buffer, a command that would complete but whose L DWords run past the end of the ring, or past the
tail, is refused CommandPastTail: PIPELINE_SELECT and MI_NOOP (L = 1), STATE_SIP, SWTESS_BASE_ADDRESS and
STATE_PREFETCH (L = 2), STATE_BASE_ADDRESS (L = 10), and on a machine that accepts them MI_USER_INTERRUPT and, off
the blitter, MI_REPORT_HEAD (L = 1), which R781 and R750 leave to a model (log entries 11, 12). (R46; R47; R822). -/
def Obligations.CommandPastTailIsRefused : Prop :=
  ∀ (s : State) (i : Instr) (n : Nat), (s.parser s.turn).bb.active = false →
    ((s.parser s.turn).ring.length < (s.parser s.turn).ring.head + 4 * n ∨ (s.parser s.turn).ring.pending < 4 * n) →
    (n = 1 ∧ (i = .miNoop 0 ∨ (s.accepted.userInterrupt = true ∧ i = .miUserInterrupt 0) ∨
        (s.accepted.reportHead = true ∧ s.turn ≠ .blitter ∧ i = .miReportHead 0) ∨
        (s.turn = .render ∧ ∃ r v, i = .pipelineSelect r v))) ∨
      (s.turn = .render ∧ n = 2 ∧ ((∃ a p r, i = .stateSip ⟨a, 0⟩ p r) ∨
        (∃ a b m r, i = .swtessBaseAddress ⟨a, 0⟩ b m r) ∨ (∃ a p r c, i = .statePrefetch ⟨a, 0⟩ p r c))) ∨
      (s.turn = .render ∧ n = 10 ∧ ∃ r g a b c d k l m o, i = .stateBaseAddress ⟨r, 8⟩ g a b c d k l m o) →
    exec i s = .refused .commandPastTail

/-- Whenever a command completes, outside a batch buffer, the head becomes (head + 4L) mod length, the command lay before
the end of the ring and before the tail, and start, length, tail and valid are unchanged; in a batch buffer its head
moves 4L bytes. L is 10 for STATE_BASE_ADDRESS, 2 for STATE_SIP, SWTESS_BASE_ADDRESS and STATE_PREFETCH, 1 for the
others that complete. (R46; R47; 10_state.md R42). -/
def Obligations.HeadAdvancesByTheCommandLength : Prop :=
  ∀ (s t : State) (i : Instr) (n : Nat), exec i s = .next t →
    (n = match i with
      | .stateBaseAddress .. => 10
      | .stateSip .. => 2
      | .swtessBaseAddress .. => 2
      | .statePrefetch .. => 2
      | _ => 1) →
    ((s.parser s.turn).bb.active = false →
      t.parser s.turn = { s.parser s.turn with ring := { (s.parser s.turn).ring with
        head := ((s.parser s.turn).ring.head + 4 * n) % (s.parser s.turn).ring.length } } ∧
      (s.parser s.turn).ring.head + 4 * n ≤ (s.parser s.turn).ring.length ∧ 4 * n ≤ (s.parser s.turn).ring.pending) ∧
    ((s.parser s.turn).bb.active = true →
      t.parser s.turn = { s.parser s.turn with bb := { (s.parser s.turn).bb with
        head := (s.parser s.turn).bb.head + BitVec.ofNat 32 (4 * n) } })

/-- For a parser whose state is well kept and whose ring is programmed, pc is start plus head where no batch buffer is
active and the batch buffer head where one is; it is a multiple of 4. (R45). -/
def Obligations.ProgramCounterIsStartPlusHead : Prop :=
  ∀ p : Parser, p.Wf → p.ring.valid = true →
    (p.bb.active = false → p.pc = p.ring.start + BitVec.ofNat 32 p.ring.head) ∧
    (p.bb.active = true → p.pc = p.bb.head) ∧ p.pc.toNat % 4 = 0

/-- On every parser MI_NOOP with DW0[22:0] zero and its DWord before the tail changes nothing but the head; with
DW0[22:0] nonzero it is refused BodyNotInSource with L = 1. (41_mi_commands.md R230; R46). -/
def Obligations.MiNoopOnlyAdvances : Prop :=
  ∀ (s : State) (d : BitVec 23),
    (d ≠ 0 → exec (.miNoop d) s = .refused (.bodyNotInSource "MI_NOOP" 1)) ∧
    (d = 0 → (s.parser s.turn).available 1 = true →
      exec (.miNoop d) s = .next (s.setParser s.turn ((s.parser s.turn).advance 1)))

/-- MI_USER_INTERRUPT is refused BodyNotInSource with L = 1 in every state of a machine that does not accept it, as after
reset, and on any machine with DW0[22:0] nonzero. On a machine that accepts it, with DW0[22:0] zero and its DWord
before the tail, it appends HostInterrupt(engine, User) to the trace and moves the head on every parser, and changes
nothing else. That the machine has such a parameter is the model's choice: R781 leaves it to a model (log entry 11).
(R231; R781; R784). -/
def Obligations.UserInterruptAppendsToTheTrace : Prop :=
  ∀ (s : State) (d : BitVec 23),
    (s.accepted.userInterrupt = false ∨ d ≠ 0 →
      exec (.miUserInterrupt d) s = .refused (.bodyNotInSource "MI_USER_INTERRUPT" 1)) ∧
    (s.accepted.userInterrupt = true → d = 0 → (s.parser s.turn).available 1 = true →
      exec (.miUserInterrupt d) s = .next { s.setParser s.turn ((s.parser s.turn).advance 1) with
        interrupts := s.interrupts ++ [⟨s.turn, .user⟩] })

/-- On the render and video parsers of a machine that accepts it, MI_REPORT_HEAD with DW0[22:0] zero and its DWord before
the tail: with the four bytes of DWord 4 of the engine's status page mapped and no live command stream among them it
stores one DWord there, moves the head and counts one free value, and nothing else changes; where a byte has no
mapping it faults with GTTError, where one lies in a live command stream it is refused CommandStreamModified. It is
refused BodyNotInSource with L = 1 in every state of a machine that does not accept it, as after reset (R235), on the
blitter, which never writes memory (R308), and with DW0[22:0] not zero. That the machine has such a parameter is the
model's choice, with the effect R750 fixes for a model that adds a trigger; what the DWord holds is a free value (log
entry 12). (R750; R235; R308; R765; R131). -/
def Obligations.ReportHeadStoresOneDWord : Prop :=
  (∀ s : State, s.accepted.reportHead = true → s.turn ≠ .blitter → (s.parser s.turn).available 1 = true →
    (∀ pas, (s.tableOf s.turn).plan (s.statusAddress s.turn 4) 4 = .ok pas → s.streamModified pas = false →
      exec (.miReportHead 0) s = .next { s.setParser s.turn ((s.parser s.turn).advance 1) with
        phys := writePhys s.phys pas (bytesOfWord (Config.headRegisterImage s.freeCounter))
        freeCounter := s.freeCounter + 1 }) ∧
    (∀ a, (s.tableOf s.turn).plan (s.statusAddress s.turn 4) 4 = .error a →
      exec (.miReportHead 0) s = .fault (.gttError a)) ∧
    (∀ pas, (s.tableOf s.turn).plan (s.statusAddress s.turn 4) 4 = .ok pas → s.streamModified pas = true →
      exec (.miReportHead 0) s = .refused .commandStreamModified)) ∧
  ∀ (s : State) (d : BitVec 23), s.accepted.reportHead = false ∨ d ≠ 0 ∨ s.turn = .blitter →
    exec (.miReportHead d) s = .refused (.bodyNotInSource "MI_REPORT_HEAD" 1)

/-- Where the next event is the device's write of DWord k of an engine's status page: with k a reserved DWord (3:0 and
1F:5, but for 18h to 1Bh of the render page), its four bytes mapped and no live command stream among them, a free
value stands there and nothing else changes but the counter of free values; where a byte has no mapping the step
faults; for every other k nothing happens. What the hardware writes is unspecified (U9); that it comes as an event is
the model's choice (log entry 49). (R753; R765; 93_implementation_defined.md U9). -/
def Obligations.DeviceWritesReservedDWords : Prop :=
  ∀ (s : State) (e : Engine) (k : Nat) (l : List Event), s.schedule = .deviceWriteReserved e k :: l →
    (k ≠ 4 ∧ k < 0x20 ∧ (e = .render → ¬ (0x18 ≤ k ∧ k ≤ 0x1B)) →
      (∀ pas, (s.tableOf e).plan (s.statusAddress e k) 4 = .ok pas → s.streamModified pas = false →
        step s = .next { s with
          schedule := l
          phys := writePhys s.phys pas (bytesOfWord (Config.reservedStatusDword s.freeCounter))
          freeCounter := s.freeCounter + 1 }) ∧
      (∀ a, (s.tableOf e).plan (s.statusAddress e k) 4 = .error a → step s = .fault (.gttError a))) ∧
    (¬ (k ≠ 4 ∧ k < 0x20 ∧ (e = .render → ¬ (0x18 ≤ k ∧ k ≤ 0x1B))) → step s = .next { s with schedule := l })

/-- Each of the 24 MI commands other than MI_NOOP, MI_USER_INTERRUPT and MI_REPORT_HEAD is refused BodyNotInSource with
its mnemonic and its length L on every parser that has it, in every state; the rows for the render parser alone are
reserved opcodes on the others, and the rows of class 1Xh on the video parser. (R160; R151; R161; R257; R259;
41_mi_commands.md R232 to R256). -/
def Obligations.MiCommandsWithoutABodyStop : Prop :=
  (∀ p ∈ ([(.miWaitForEvent, "MI_WAIT_FOR_EVENT"), (.miArbCheck, "MI_ARB_CHECK"), (.miArbOnOff, "MI_ARB_ON_OFF"),
      (.miBatchBufferEnd, "MI_BATCH_BUFFER_END"), (.miSuspendFlush, "MI_SUSPEND_FLUSH"),
      (.miPredicate, "MI_PREDICATE"), (.miTopologyFilter, "MI_TOPOLOGY_FILTER"), (.miSetAppid, "MI_SET_APPID")] : List ((BitVec 23 → Instr) × String)),
    ∀ (s : State) (d : BitVec 23), exec (p.1 d) s = .refused (.bodyNotInSource p.2 1)) ∧
  (∀ p ∈ ([(.miStoreDataImm, "MI_STORE_DATA_IMM"), (.miStoreDataIndex, "MI_STORE_DATA_INDEX"),
      (.miUpdateGtt, "MI_UPDATE_GTT"), (.miStoreRegisterMem, "MI_STORE_REGISTER_MEM"), (.miFlushDw, "MI_FLUSH_DW"),
      (.miClflush, "MI_CLFLUSH"), (.miReportPerfCount, "MI_REPORT_PERF_COUNT"),
      (.miLoadRegisterMem, "MI_LOAD_REGISTER_MEM"), (.miBatchBufferStart, "MI_BATCH_BUFFER_START"),
      (.miConditionalBatchBufferEnd, "MI_CONDITIONAL_BATCH_BUFFER_END")] : List ((BitVec 23 → Instr) × String)),
    ∀ (s : State) (d : BitVec 23), exec (p.1 d) s = .refused (.bodyNotInSource p.2 ((d.extractLsb' 0 6).toNat + 2))) ∧
  (∀ (s : State) (d : BitVec 23), exec (.miLoadRegisterImm d) s =
    .refused (.bodyNotInSource "MI_LOAD_REGISTER_IMM" ((d.extractLsb' 0 8).toNat + 2))) ∧
  (∀ (s : State) (d : BitVec 23),
    (s.turn = .render → exec (.miOpcode04hUnnamed d) s = .refused (.bodyNotInSource "MI_OPCODE_04h_UNNAMED" 1)) ∧
    (s.turn ≠ .render → exec (.miOpcode04hUnnamed d) s = .refused .reservedOpcode)) ∧
  (∀ p ∈ ([(.miDisplayFlip, "MI_DISPLAY_FLIP"), (.miSetContext, "MI_SET_CONTEXT")] : List ((BitVec 23 → Instr) × String)),
    ∀ (s : State) (d : BitVec 23),
      (s.turn = .render → exec (p.1 d) s = .refused (.bodyNotInSource p.2 ((d.extractLsb' 0 6).toNat + 2))) ∧
      (s.turn ≠ .render → exec (p.1 d) s = .refused .reservedOpcode)) ∧
  (∀ p ∈ ([(.miSemaphoreMbox, "MI_SEMAPHORE_MBOX"), (.miMath, "MI_MATH")] : List ((BitVec 23 → Instr) × String)),
    ∀ (s : State) (d : BitVec 23),
      (s.turn ≠ .video → exec (p.1 d) s = .refused (.bodyNotInSource p.2 ((d.extractLsb' 0 6).toNat + 2))) ∧
      (s.turn = .video → exec (p.1 d) s = .refused .reservedOpcode))

/-- Each of the 26 2D commands is refused BodyNotInSource with its mnemonic and L = DW0[4:0] + 2 on the render and
blitter parsers, in every state, and as a reserved client on the video parser. PIPE_CONTROL, the two sampler palette
loads, 3DSTATE_CHROMA_KEY, 3DSTATE_MONOFILTER_SIZE and GPGPU_CSR_BASE_ADDRESS: with L = DW0[7:0] + 2 on the render
parser whatever pipeline is selected, and by name on the other parsers. Each MFX command: with L = DW0[15:0] + 2 (the
single-DWord row: 1) on the video parser; on the render parser it is a reserved opcode and on the blitter a reserved
client. (R160; R152; R153; R155; R148; 42_2d_commands.md R280 to R306; R228; R321; R420; R450; R477;
44_mfx_commands.md R451 to R475). -/
def Obligations.CommandsWithoutABodyStop : Prop :=
  (∀ p ∈ ([(.xySetupBlt, "XY_SETUP_BLT"), (.xySetupClipBlt, "XY_SETUP_CLIP_BLT"),
      (.xySetupMonoPatternSlBlt, "XY_SETUP_MONO_PATTERN_SL_BLT"), (.xyPixelBlt, "XY_PIXEL_BLT"),
      (.xyScanlinesBlt, "XY_SCANLINES_BLT"), (.xyTextBlt, "XY_TEXT_BLT"),
      (.xyTextImmediateBlt, "XY_TEXT_IMMEDIATE_BLT"), (.colorBlt, "COLOR_BLT"), (.srcCopyBlt, "SRC_COPY_BLT"),
      (.xyColorBlt, "XY_COLOR_BLT"), (.xyPatBlt, "XY_PAT_BLT"), (.xyMonoPatBlt, "XY_MONO_PAT_BLT"),
      (.xySrcCopyBlt, "XY_SRC_COPY_BLT"), (.xyMonoSrcCopyBlt, "XY_MONO_SRC_COPY_BLT"), (.xyFullBlt, "XY_FULL_BLT"),
      (.xyFullMonoSrcBlt, "XY_FULL_MONO_SRC_BLT"), (.xyFullMonoPatternBlt, "XY_FULL_MONO_PATTERN_BLT"),
      (.xyFullMonoPatternMonoSrcBlt, "XY_FULL_MONO_PATTERN_MONO_SRC_BLT"),
      (.xyMonoPatFixedBlt, "XY_MONO_PAT_FIXED_BLT"), (.xyMonoSrcCopyImmediateBlt, "XY_MONO_SRC_COPY_IMMEDIATE_BLT"),
      (.xyPatBltImmediate, "XY_PAT_BLT_IMMEDIATE"), (.xySrcCopyChromaBlt, "XY_SRC_COPY_CHROMA_BLT"),
      (.xyFullImmediatePatternBlt, "XY_FULL_IMMEDIATE_PATTERN_BLT"),
      (.xyFullMonoSrcImmediatePatternBlt, "XY_FULL_MONO_SRC_IMMEDIATE_PATTERN_BLT"),
      (.xyPatChromaBlt, "XY_PAT_CHROMA_BLT"), (.xyPatChromaBltImmediate, "XY_PAT_CHROMA_BLT_IMMEDIATE")] : List ((BitVec 22 → Instr) × String)),
    ∀ (s : State) (d : BitVec 22),
      (s.turn ≠ .video → exec (p.1 d) s = .refused (.bodyNotInSource p.2 ((d.extractLsb' 0 5).toNat + 2))) ∧
      (s.turn = .video → exec (p.1 d) s = .refused .reservedClient)) ∧
  (∀ p ∈ ([(.state3dSamplerPaletteLoad0, "3DSTATE_SAMPLER_PALETTE_LOAD0"), (.state3dChromaKey, "3DSTATE_CHROMA_KEY"),
      (.state3dSamplerPaletteLoad1, "3DSTATE_SAMPLER_PALETTE_LOAD1"),
      (.state3dMonofilterSize, "3DSTATE_MONOFILTER_SIZE"), (.pipeControl, "PIPE_CONTROL"),
      (.gpgpuCsrBaseAddress, "GPGPU_CSR_BASE_ADDRESS")] : List ((BitVec 16 → Instr) × String)),
    ∀ (s : State) (d : BitVec 16),
      (s.turn = .render → exec (p.1 d) s = .refused (.bodyNotInSource p.2 ((d.extractLsb' 0 8).toNat + 2))) ∧
      (s.turn = .video → exec (p.1 d) s = .refused .reservedOpcode) ∧
      (s.turn = .blitter → exec (p.1 d) s = .refused .reservedClient)) ∧
  (∀ p ∈ ([(.mfxPipeModeSelect, "MFX_PIPE_MODE_SELECT"), (.mfxSurfaceState, "MFX_SURFACE_STATE"),
      (.mfxPipeBufAddrState, "MFX_PIPE_BUF_ADDR_STATE"), (.mfxIndObjBaseAddrState, "MFX_IND_OBJ_BASE_ADDR_STATE"),
      (.mfxBspBufBaseAddrState, "MFX_BSP_BUF_BASE_ADDR_STATE"), (.mfx005Unnamed, "MFX_0_0_5_UNNAMED"),
      (.mfxStatePointer, "MFX_STATE_POINTER"), (.mfdItObject, "MFD_IT_OBJECT"),
      (.mfxAvcImgState, "MFX_AVC_IMG_STATE"), (.mfxAvcQmState, "MFX_AVC_QM_STATE"),
      (.mfxAvcDirectmodeState, "MFX_AVC_DIRECTMODE_STATE"), (.mfxAvcSliceState, "MFX_AVC_SLICE_STATE"),
      (.mfxAvcRefIdxState, "MFX_AVC_REF_IDX_STATE"), (.mfxAvcWeightoffsetState, "MFX_AVC_WEIGHTOFFSET_STATE"),
      (.mfdAvcBsdObject, "MFD_AVC_BSD_OBJECT"), (.mfcAvcFqmState, "MFC_AVC_FQM_STATE"),
      (.mfcAvcPakInsertObject, "MFC_AVC_PAK_INSERT_OBJECT"), (.mfcAvcPakObject, "MFC_AVC_PAK_OBJECT"),
      (.mfxVc1PicState, "MFX_VC1_PIC_STATE"), (.mfxVc1PredPipeState, "MFX_VC1_PRED_PIPE_STATE"),
      (.mfxVc1DirectmodeState, "MFX_VC1_DIRECTMODE_STATE"), (.mfdVc1BsdObject, "MFD_VC1_BSD_OBJECT"),
      (.mfxMpeg2PicState, "MFX_MPEG2_PIC_STATE"), (.mfxMpeg2QmState, "MFX_MPEG2_QM_STATE"),
      (.mfdMpeg2BsdObject, "MFD_MPEG2_BSD_OBJECT")] : List ((BitVec 16 → Instr) × String)),
    ∀ (s : State) (d : BitVec 16),
      (s.turn = .video → exec (p.1 d) s = .refused (.bodyNotInSource p.2 (d.toNat + 2))) ∧
      (s.turn = .render → exec (p.1 d) s = .refused .reservedOpcode) ∧
      (s.turn = .blitter → exec (p.1 d) s = .refused .reservedClient)) ∧
  ∀ s : State,
    (s.turn = .video → exec .mfxSingleDwUnnamed s = .refused (.bodyNotInSource "MFX_SINGLE_DW_UNNAMED" 1)) ∧
    (s.turn = .render → exec .mfxSingleDwUnnamed s = .refused .reservedOpcode) ∧
    (s.turn = .blitter → exec .mfxSingleDwUnnamed s = .refused .reservedClient)

/-- Where the next event runs the parser of an engine, the step is that parser's. Where it chooses an engine's table or
places its status page, exactly that changes. Where it sets the size of a table, exactly the size changes; 64 KB for
the global table is refused. That these come as events is the model's choice (log entries 8, 9, 10, 16). (R836; R96;
R98; 00_scope.md R7). -/
def Obligations.EventsThatChoose : Prop :=
  ∀ (s : State) (l : List Event),
    (∀ e, s.schedule = .runParser e :: l → step s = stepParser { s with schedule := l, turn := e }) ∧
    (∀ e c, s.schedule = .setTable e c :: l →
      step s = .next ({ s with schedule := l }.setParser e { s.parser e with table := c })) ∧
    (∀ e p, s.schedule = .setStatusPage e p :: l →
      step s = .next ({ s with schedule := l }.setParser e { s.parser e with statusPage := p })) ∧
    (∀ z, s.schedule = .hostSetTableSize .global z :: l →
      (z ≠ .kb64 → step s = .next { s with schedule := l, gtt := { s.gtt with size := z } }) ∧
      (z = .kb64 → step s = .refused .tableSizeIllegal)) ∧
    (∀ e z, s.schedule = .hostSetTableSize (.perProcess e) z :: l →
      step s = .next ({ s with schedule := l }.setParser e
        { s.parser e with ppgtt := { (s.parser e).ppgtt with size := z } }))

/-- Each 3D-pipeline-specific command (3DPRIMITIVE and the 3DSTATE rows) on the render parser: while S.PipelineSelect is
unset it is refused StateNeverWritten, while another pipeline is selected WrongPipeline, and while the 3D pipeline is
selected BodyNotInSource with its mnemonic and L = DW0[7:0] + 2. The media row: WrongPipeline while the 3D pipeline
is selected, StateNeverWritten while none is, and BodyNotInSource with L = DW0[15:0] + 2 while the Media or the GPGPU
pipeline is selected (GPGPU is another pipeline only for 3D commands). On the other parsers they are refused by name.
(R160; R321; R153; R401; R421; 60_exceptions.md R771). -/
def Obligations.PipelineSpecificCommandsStop : Prop :=
  (∀ p ∈ ([(.state3dClearParams, "3DSTATE_CLEAR_PARAMS"), (.state3dDepthBuffer, "3DSTATE_DEPTH_BUFFER"),
      (.state3dStencilBuffer, "3DSTATE_STENCIL_BUFFER"), (.state3dHierDepthBuffer, "3DSTATE_HIER_DEPTH_BUFFER"),
      (.state3dVertexBuffers, "3DSTATE_VERTEX_BUFFERS"), (.state3dVertexElements, "3DSTATE_VERTEX_ELEMENTS"),
      (.state3dIndexBuffer, "3DSTATE_INDEX_BUFFER"), (.state3dVfStatistics, "3DSTATE_VF_STATISTICS"),
      (.state3dViewportStatePointers, "3DSTATE_VIEWPORT_STATE_POINTERS"), (.state3dVs, "3DSTATE_VS"),
      (.state3dGs, "3DSTATE_GS"), (.state3dClip, "3DSTATE_CLIP"), (.state3dSf, "3DSTATE_SF"),
      (.state3dWm, "3DSTATE_WM"), (.state3dConstantVs, "3DSTATE_CONSTANT_VS"),
      (.state3dConstantGs, "3DSTATE_CONSTANT_GS"), (.state3dConstantPs, "3DSTATE_CONSTANT_PS"),
      (.state3dSampleMask, "3DSTATE_SAMPLE_MASK"), (.state3dConstantHs, "3DSTATE_CONSTANT_HS"),
      (.state3dConstantDs, "3DSTATE_CONSTANT_DS"), (.state3dHs, "3DSTATE_HS"), (.state3dTe, "3DSTATE_TE"),
      (.state3dDs, "3DSTATE_DS"), (.state3dStreamout, "3DSTATE_STREAMOUT"), (.state3dSbe, "3DSTATE_SBE"),
      (.state3dPs, "3DSTATE_PS"), (.state3dViewportStatePointersSfClip, "3DSTATE_VIEWPORT_STATE_POINTERS_SF_CLIP"),
      (.state3dViewportStatePointersCc, "3DSTATE_VIEWPORT_STATE_POINTERS_CC"),
      (.state3dBlendStatePointers, "3DSTATE_BLEND_STATE_POINTERS"),
      (.state3dDepthStencilStatePointers, "3DSTATE_DEPTH_STENCIL_STATE_POINTERS"),
      (.state3dBindingTablePointersVs, "3DSTATE_BINDING_TABLE_POINTERS_VS"),
      (.state3dBindingTablePointersHs, "3DSTATE_BINDING_TABLE_POINTERS_HS"),
      (.state3dBindingTablePointersDs, "3DSTATE_BINDING_TABLE_POINTERS_DS"),
      (.state3dBindingTablePointersGs, "3DSTATE_BINDING_TABLE_POINTERS_GS"),
      (.state3dBindingTablePointersPs, "3DSTATE_BINDING_TABLE_POINTERS_PS"),
      (.state3dSamplerStatePointersVs, "3DSTATE_SAMPLER_STATE_POINTERS_VS"),
      (.state3dSamplerStatePointersHs, "3DSTATE_SAMPLER_STATE_POINTERS_HS"),
      (.state3dSamplerStatePointersDs, "3DSTATE_SAMPLER_STATE_POINTERS_DS"),
      (.state3dSamplerStatePointersGs, "3DSTATE_SAMPLER_STATE_POINTERS_GS"), (.state3dUrbVs, "3DSTATE_URB_VS"),
      (.state3dUrbHs, "3DSTATE_URB_HS"), (.state3dUrbDs, "3DSTATE_URB_DS"), (.state3dUrbGs, "3DSTATE_URB_GS"),
      (.state3dWmChromaKey, "3DSTATE_WM_CHROMA_KEY"), (.state3dPsBlend, "3DSTATE_PS_BLEND"),
      (.state3dWmDepthStencil, "3DSTATE_WM_DEPTH_STENCIL"), (.state3dPsExtra, "3DSTATE_PS_EXTRA"),
      (.state3dRaster, "3DSTATE_RASTER"), (.state3dSbeSwiz, "3DSTATE_SBE_SWIZ"), (.state3dWmHzOp, "3DSTATE_WM_HZ_OP"),
      (.state3dInt, "3DSTATE_INT"), (.state3dDrawingRectangle, "3DSTATE_DRAWING_RECTANGLE"),
      (.state3dPolyStippleOffset, "3DSTATE_POLY_STIPPLE_OFFSET"),
      (.state3dPolyStipplePattern, "3DSTATE_POLY_STIPPLE_PATTERN"), (.state3dLineStipple, "3DSTATE_LINE_STIPPLE"),
      (.state3dAaLineParams, "3DSTATE_AA_LINE_PARAMS"), (.state3dGsSvbIndex, "3DSTATE_GS_SVB_INDEX"),
      (.state3dMultisample, "3DSTATE_MULTISAMPLE"), (.state3dStencilBufferNp, "3DSTATE_STENCIL_BUFFER"),
      (.state3dHierDepthBufferNp, "3DSTATE_HIER_DEPTH_BUFFER"), (.state3dClearParamsNp, "3DSTATE_CLEAR_PARAMS"),
      (.state3dPushConstantAllocVs, "3DSTATE_PUSH_CONSTANT_ALLOC_VS"),
      (.state3dPushConstantAllocHs, "3DSTATE_PUSH_CONSTANT_ALLOC_HS"),
      (.state3dPushConstantAllocDs, "3DSTATE_PUSH_CONSTANT_ALLOC_DS"),
      (.state3dPushConstantAllocGs, "3DSTATE_PUSH_CONSTANT_ALLOC_GS"),
      (.state3dPushConstantAllocPs, "3DSTATE_PUSH_CONSTANT_ALLOC_PS"), (.state3dSoDeclList, "3DSTATE_SO_DECL_LIST"),
      (.state3dSoBuffer, "3DSTATE_SO_BUFFER"), (.state3dSamplePattern, "3DSTATE_SAMPLE_PATTERN"),
      (.state3dUrbClear, "3DSTATE_URB_CLEAR"), (.primitive3d, "3DPRIMITIVE")] : List ((BitVec 16 → Instr) × String)),
    ∀ (s : State) (d : BitVec 16),
      (s.turn = .render → s.gpe.pipelineSelect = .holds 0 →
        exec (p.1 d) s = .refused (.bodyNotInSource p.2 ((d.extractLsb' 0 8).toNat + 2))) ∧
      (∀ v, s.turn = .render → s.gpe.pipelineSelect = .holds v → v ≠ 0 → exec (p.1 d) s = .refused .wrongPipeline) ∧
      (s.turn = .render → s.gpe.pipelineSelect = .unset → exec (p.1 d) s = .refused .stateNeverWritten) ∧
      (s.turn = .video → exec (p.1 d) s = .refused .reservedOpcode) ∧
      (s.turn = .blitter → exec (p.1 d) s = .refused .reservedClient)) ∧
  ∀ (s : State) (d : BitVec 27),
    (∀ v, s.turn = .render → s.gpe.pipelineSelect = .holds v → v ≠ 0 → exec (.mediaSubtype2hUnmapped d) s =
      .refused (.bodyNotInSource "MEDIA_SUBTYPE_2H_UNMAPPED" ((d.extractLsb' 0 16).toNat + 2))) ∧
    (s.turn = .render → s.gpe.pipelineSelect = .holds 0 →
      exec (.mediaSubtype2hUnmapped d) s = .refused .wrongPipeline) ∧
    (s.turn = .render → s.gpe.pipelineSelect = .unset →
      exec (.mediaSubtype2hUnmapped d) s = .refused .stateNeverWritten) ∧
    (s.turn = .video → exec (.mediaSubtype2hUnmapped d) s = .refused .reservedOpcode) ∧
    (s.turn = .blitter → exec (.mediaSubtype2hUnmapped d) s = .refused .reservedClient)

/-- Where the next event is a host read of physical memory, or of graphics memory all of whose bytes are mapped, or of a
register at a DWord offset, only the event is taken off. A read of graphics memory faults with GTTError where a byte
has no mapping; a register offset that is no multiple of 4 is refused Misaligned (the model's choice, log entry 21).
(R835; R98; R765). -/
def Obligations.HostReadsObserve : Prop :=
  ∀ (s : State) (l : List Event),
    (∀ a n, s.schedule = .hostReadMem .phys a n :: l → step s = .next { s with schedule := l }) ∧
    (∀ j a n, s.schedule = .hostReadMem (.gfx j) a n :: l →
      (∀ pas, (s.tableById j).plan (BitVec.ofNat 32 a) n = .ok pas → step s = .next { s with schedule := l }) ∧
      (∀ b, (s.tableById j).plan (BitVec.ofNat 32 a) n = .error b → step s = .fault (.gttError b))) ∧
    (∀ o, s.schedule = .hostReadReg o :: l →
      (o % 4 = 0 → step s = .next { s with schedule := l }) ∧ (o % 4 ≠ 0 → step s = .refused .misaligned))

/-- Whatever command completes: no other parser changes; of the parser that steps only the two heads can change; the
registers, the translation tables, the EU threads, the hidden state, the two parameters, the turn and the schedule
are unchanged. That the ring head and batch head registers and the counters stay as they are too is log entries 21
and 33, that the caches and the command FIFO do is log entry 24 (DESIGN CHOICE). (R836; R772; 10_state.md R40;
10_state.md R58). -/
def Obligations.CommandsLeaveOtherStateAlone : Prop :=
  ∀ (i : Instr) (s t : State), exec i s = .next t →
    (∀ e, e ≠ s.turn → t.parser e = s.parser e) ∧
    (∃ h b, t.parser s.turn = { s.parser s.turn with
      ring := { (s.parser s.turn).ring with head := h }, bb := { (s.parser s.turn).bb with head := b } }) ∧
    (∀ o, t.readReg o = s.readReg o) ∧ (∀ r, t.readNamed r = s.readNamed r) ∧
    t.mmio = s.mmio ∧ t.namedRegs = s.namedRegs ∧ t.gtt = s.gtt ∧ t.threads = s.threads ∧ t.hidden = s.hidden ∧
    t.variant = s.variant ∧ t.accepted = s.accepted ∧ t.turn = s.turn ∧ t.schedule = s.schedule

/-- Whatever command completes: S.PipelineSelect changes only under PIPELINE_SELECT; the five bases, their control state,
the force-write-thru bit and the four bounds only under STATE_BASE_ADDRESS; S.SWTessBase and S.SWTessMOCS only under
SWTESS_BASE_ADDRESS; S.SIP only under STATE_SIP; the opaque state only under PIPELINE_SELECT and STATE_BASE_ADDRESS,
and then only by losing entries; the URB only under PIPELINE_SELECT, which empties it. That PIPELINE_SELECT empties
the whole URB is DEDUCED (log entry 50), and so is what the opaque state is, which of the two commands loses which
entries and that no other command loses any (log entry 25). (R50; R51; R52; R53; R54; R55; 10_state.md R57;
10_state.md R81; R190). -/
def Obligations.StateVariablesAreWrittenOnlyByTheirCommands : Prop :=
  ∀ (i : Instr) (s t : State), exec i s = .next t →
    ((∀ r v, i ≠ .pipelineSelect r v) → t.gpe.pipelineSelect = s.gpe.pipelineSelect) ∧
    ((∀ h p r, i ≠ .stateSip h p r) → t.gpe.sip = s.gpe.sip) ∧
    ((∀ h b m r, i ≠ .swtessBaseAddress h b m r) →
      t.gpe.swTessBase = s.gpe.swTessBase ∧ t.gpe.swTessMocs = s.gpe.swTessMocs) ∧
    ((∀ h g a b c d k l m n, i ≠ .stateBaseAddress h g a b c d k l m n) →
      ∃ p b m q, t.gpe = { s.gpe with pipelineSelect := p, swTessBase := b, swTessMocs := m, sip := q }) ∧
    (∀ x ∈ t.opaqueState, x ∈ s.opaqueState) ∧
    ((∀ r v, i ≠ .pipelineSelect r v) → (∀ h g a b c d k l m n, i ≠ .stateBaseAddress h g a b c d k l m n) →
      t.opaqueState = s.opaqueState) ∧
    ((∀ r v, i ≠ .pipelineSelect r v) → t.urb = s.urb) ∧ ((∃ r v, i = .pipelineSelect r v) → t.urb = [])

/-- A completed command other than MI_REPORT_HEAD leaves every byte of memory, through every translation table and of
physical memory, every interrupt but the one MI_USER_INTERRUPT appends, and the free-value counter as they were.
MI_REPORT_HEAD leaves every byte outside the four bytes of DWord 4 of its engine's status page, and the interrupts
and the state variables. On a machine that accepts neither, as after reset, no command writes memory and none adds to
the trace. That a machine may accept them, where R231 and R235 refuse both, is log entries 11 and 12. (R230; R750;
R784; R772). -/
def Obligations.OnlyReportHeadStores : Prop :=
  ∀ (i : Instr) (s t : State), exec i s = .next t →
    ((∀ d, i ≠ .miReportHead d) →
      (∀ a, readPhys t.phys a = readPhys s.phys a) ∧ (∀ j a, t.readGfx j a = s.readGfx j a) ∧
      t.freeCounter = s.freeCounter ∧ ((∀ d, i ≠ .miUserInterrupt d) → t.interrupts = s.interrupts)) ∧
    ((∃ d, i = .miReportHead d) →
      (∀ pas, (s.tableOf s.turn).plan (s.statusAddress s.turn 4) 4 = .ok pas →
        ∀ a, a ∉ pas → readPhys t.phys a = readPhys s.phys a) ∧
      t.interrupts = s.interrupts ∧ t.gpe = s.gpe ∧ t.opaqueState = s.opaqueState) ∧
    (s.accepted = ⟨false, false⟩ → t.phys = s.phys ∧ t.interrupts = s.interrupts)

/-- Where a store to graphics memory answers a next state and its bytes lie at distinct physical addresses, each stored
byte reads back through the same table; every physical byte outside the stored ones, and everything but memory, is
unchanged. (R98; R100; 20_memory.md R104). -/
def Obligations.StoredBytesReadBack : Prop :=
  ∀ (s t : State) (j : TableId) (a : GraphicsAddress) (bytes : List Byte) (pas : List Nat),
    s.storeGfx j a bytes = .next t → (s.tableById j).plan a bytes.length = .ok pas → pas.Nodup →
    (∀ (k : Nat) (h : k < bytes.length), t.readGfx j (a + BitVec.ofNat 32 k) = some bytes[k]) ∧
    (∀ p, p ∉ pas → readPhys t.phys p = readPhys s.phys p) ∧
    t = { s with phys := t.phys }

/-- Where the next event is an exception of the thread in slot k, and S.SIP and S.InstructionBase are set with a sum
below 2^32: AIP of that thread takes its IP, its IP takes S.SIP shifted left by 4, and nothing else of the thread or
the machine changes, whatever its CR holds and wherever its IP stands. With either unset the step is refused
StateNeverWritten, with a larger sum AddressOverflow; where no thread is in the slot only the event is taken off.
That exceptions come as scheduled events, nest and are never masked is the model's choice (log entry 22). (R762;
R764; R111; R84). -/
def Obligations.ExceptionEntersTheSystemRoutine : Prop :=
  ∀ (s : State) (k : Nat) (l : List Event), s.schedule = .euException k :: l →
    (∀ u, s.threads[k]? = some u →
      (∀ b p, s.gpe.instructionBase = .holds b → s.gpe.sip = .holds p →
        (b.toNat * 4096 + p.toNat * 16 < 4294967296 →
          step s = .next { s with
            schedule := l
            threads := s.threads.set k { u with aip := u.ip, ip := BitVec.ofNat 32 (p.toNat * 16) } }) ∧
        (4294967296 ≤ b.toNat * 4096 + p.toNat * 16 → step s = .refused .addressOverflow)) ∧
      (s.gpe.instructionBase = .unset ∨ s.gpe.sip = .unset → step s = .refused .stateNeverWritten)) ∧
    (s.threads[k]? = none → step s = .next { s with schedule := l })

/-- Where the next event programs a ring with a 4 KB start, a length of at most 2 MB, whatever it is, and head and tail
multiples of 4, exactly the ring of that engine is set and valid, and for the video engine the DMA copies head and
tail and its FIFO is empty. Where it writes the tail with a multiple of 4, exactly that tail changes, and for the
video engine the DMA's copy. A misaligned start, head or tail is refused Misaligned, a longer length
RingParametersIllegal (the model's choice, log entry 20); what the DMA's copies do is log entry 24. (R41; R48; R802;
R835; R102). -/
def Obligations.HostProgramsARing : Prop :=
  ∀ (s : State) (e : Engine) (l : List Event),
    (∀ a n h t, s.schedule = .hostProgramRing e a n h t :: l →
      (a.toNat % 4096 = 0 ∧ h % 4 = 0 ∧ t % 4 = 0 →
        (n ≤ 2097152 →
          step s = .next { { s with schedule := l }.setParser e { s.parser e with ring := ⟨a, n, h, t, true⟩ } with
            hidden := if e = .video then { s.hidden with vcsFifo := [], vcsDmaHead := h, vcsDmaTail := t }
              else s.hidden }) ∧
        (2097152 < n → step s = .refused .ringParametersIllegal)) ∧
      (¬ (a.toNat % 4096 = 0 ∧ h % 4 = 0 ∧ t % 4 = 0) → step s = .refused .misaligned)) ∧
    (∀ t, s.schedule = .hostWriteTail e t :: l →
      (t % 4 = 0 →
        step s = .next { { s with schedule := l }.setParser e
          { s.parser e with ring := { (s.parser e).ring with tail := t } } with
            hidden := if e = .video then { s.hidden with vcsDmaTail := t } else s.hidden }) ∧
      (t % 4 ≠ 0 → step s = .refused .misaligned))

/-- Where the next event is a request of the DMA: lines with no byte left between head and tail leave the FIFO; where the
video ring is programmed, fewer than 16 lines wait and the DMA's head differs from its tail, the cache line at its
head, as far as the ring goes, is read and enters the FIFO, and its head moves past that line around the ring, or to
the tail where the tail lies in it; an unmapped byte is a GTT error. Nothing else changes. That requests come as
events is the model's choice (log entry 24). (R48; R80; R765). -/
def Obligations.VcsDmaFetchesALine : Prop :=
  ∀ (s : State) (l : List Event), s.schedule = .vcsDmaRequest :: l →
    ∀ (w : List FifoLine) (o n : Nat), w = s.hidden.vcsFifo.filter (fun x => x.waiting s.video.ring) →
    o = s.hidden.vcsDmaHead / 64 * 64 → n = min 64 (s.video.ring.length - o) →
    (s.video.ring.valid = true ∧ w.length < 16 ∧ s.hidden.vcsDmaHead ≠ s.hidden.vcsDmaTail →
      (∀ pas, (s.tableOf .video).plan (s.video.ring.start + BitVec.ofNat 32 o) n = .ok pas →
        step s = .next { s with
          schedule := l
          hidden := { s.hidden with
            vcsFifo := w ++ [⟨o, pas.map (readPhys s.phys)⟩]
            vcsDmaHead := if s.hidden.vcsDmaHead < s.hidden.vcsDmaTail ∧ s.hidden.vcsDmaTail ≤ o + n
              then s.hidden.vcsDmaTail else (o + n) % s.video.ring.length } }) ∧
      (∀ b, (s.tableOf .video).plan (s.video.ring.start + BitVec.ofNat 32 o) n = .error b →
        step s = .fault (.gttError b))) ∧
    (¬ (s.video.ring.valid = true ∧ w.length < 16 ∧ s.hidden.vcsDmaHead ≠ s.hidden.vcsDmaTail) →
      step s = .next { s with schedule := l, hidden := { s.hidden with vcsFifo := w } })

/-- Where the next event writes a register at a DWord offset that is no ring register, the step completes, that register
reads the value, every other register reads as before, and nothing but the register file changes. A ring register is
refused by name, an offset that is no multiple of 4 as misaligned (R102). The same for the registers named without an
offset, those of the unnamed unit blocks among them. The refusal of a raw write to a ring register, a reason R770
does not have, the alignment of offsets and storage without side effect are the model's choice (log entry 21), and so
is how registers without an offset are kept (log entry 6). (R835; R60; R69; R102). -/
def Obligations.HostRegisterWritesAreStorage : Prop :=
  (∀ (s : State) (o : Nat) (v : Word) (l : List Event), s.schedule = .hostWriteReg o v :: l →
    (o % 4 = 0 → o ≠ 0x2030 → o ≠ 0x2034 → o ≠ 0x2038 → o ≠ 0x203C →
      ∃ t, step s = .next t ∧ t.readReg o = v ∧ (∀ p, p ≠ o → t.readReg p = s.readReg p) ∧
        t = { s with schedule := l, mmio := t.mmio }) ∧
    (o = 0x2030 ∨ o = 0x2034 ∨ o = 0x2038 ∨ o = 0x203C → step s = .refused .registerLayoutNotInSource) ∧
    (o % 4 ≠ 0 → step s = .refused .misaligned)) ∧
  ∀ (s : State) (r : NamedReg) (v : Word) (l : List Event), s.schedule = .hostWriteNamedReg r v :: l →
    (r.isRingPointer = false →
      ∃ t, step s = .next t ∧ t.readNamed r = v ∧ (∀ q, q ≠ r → t.readNamed q = s.readNamed q) ∧
        t = { s with schedule := l, namedRegs := t.namedRegs }) ∧
    (r.isRingPointer = true → step s = .refused .registerLayoutNotInSource)

/-- Where the next event maps the page of an address inside the aperture of a table, every address of that page then
translates to the same offset of the new physical page, every other address translates as before, other tables are
unchanged, and nothing but tables changes: memory, registers, rings and all other state read as before. That a page
already mapped is mapped anew at once, and that beyond the aperture nothing changes, is the model's choice (DESIGN
CHOICE, log entry 9). (R835; R98; R97; R135). -/
def Obligations.HostMapsAPage : Prop :=
  ∀ (s : State) (j : TableId) (a : GraphicsAddress) (x : PageEntry) (l : List Event),
    s.schedule = .hostMapPage j a x :: l → ∃ t, step s = .next t ∧
      (pteIndex a < (s.tableById j).size.entries → ∀ b, pteIndex b = pteIndex a →
        (t.tableById j).translate b = some (x.page * 4096 + b.toNat % 4096)) ∧
      (∀ b, pteIndex b ≠ pteIndex a → (t.tableById j).translate b = (s.tableById j).translate b) ∧
      (∀ k, k ≠ j → t.tableById k = s.tableById k) ∧
      t = { s with
        schedule := l
        gtt := t.gtt
        render := { s.render with ppgtt := t.render.ppgtt }
        video := { s.video with ppgtt := t.video.ppgtt }
        blitter := { s.blitter with ppgtt := t.blitter.ppgtt } } ∧
      ((s.tableById j).size.entries ≤ pteIndex a → t = { s with schedule := l })

/-- Where the next event is a host write to physical memory none of whose bytes is live for a parser, the step completes,
the bytes stand at their addresses, every other byte and everything but memory is unchanged. A host write through a
translation table writes its bytes to the physical addresses the table gives, where none is live, and changes nothing
else; where a byte has no mapping it faults with GTTError and writes nothing. (R835; R91; R98; R765). -/
def Obligations.HostMemoryWritesLand : Prop :=
  (∀ (s : State) (a : Nat) (bytes : List Byte) (l : List Event), s.schedule = .hostWriteMem .phys a bytes :: l →
    (s.setSchedule l).streamModified (List.range' a bytes.length) = false →
    ∃ t, step s = .next t ∧ (∀ (k : Nat) (h : k < bytes.length), readPhys t.phys (a + k) = bytes[k]) ∧
      (∀ p, p < a ∨ a + bytes.length ≤ p → readPhys t.phys p = readPhys s.phys p) ∧
      t = { s with schedule := l, phys := t.phys }) ∧
  ∀ (s : State) (j : TableId) (a : Nat) (bytes : List Byte) (l : List Event),
    s.schedule = .hostWriteMem (.gfx j) a bytes :: l →
    (∀ pas, (s.tableById j).plan (BitVec.ofNat 32 a) bytes.length = .ok pas → s.streamModified pas = false →
      step s = .next { s with schedule := l, phys := writePhys s.phys pas bytes }) ∧
    (∀ b, (s.tableById j).plan (BitVec.ofNat 32 a) bytes.length = .error b → step s = .fault (.gttError b))

/-- If a byte of the range from head to tail of a programmed ring of any engine (where the tail lies before the head:
from the head to the end of the ring, or from its start to the tail) translates, in the table that engine uses, to a
physical address, a host write any of whose bytes goes to that address, to physical memory or through any translation
table, is refused CommandStreamModified, in every state. (R131; R822; R835). -/
def Obligations.LiveCommandStreamIsProtected : Prop :=
  ∀ (s : State) (e : Engine) (o pa : Nat) (l : List Event),
    (s.parser e).ring.valid = true → o < 4294967296 →
    ((s.parser e).ring.head ≤ o ∧ o < (s.parser e).ring.tail) ∨
      ((s.parser e).ring.tail < (s.parser e).ring.head ∧
        (((s.parser e).ring.head ≤ o ∧ o < (s.parser e).ring.length) ∨ o < (s.parser e).ring.tail)) →
    (s.tableOf e).translate ((s.parser e).ring.start + BitVec.ofNat 32 o) = some pa →
    (∀ a bytes, s.schedule = .hostWriteMem .phys a bytes :: l → a ≤ pa → pa < a + bytes.length →
      step s = .refused .commandStreamModified) ∧
    (∀ j a bytes pas, s.schedule = .hostWriteMem (.gfx j) a bytes :: l →
      (s.tableById j).plan (BitVec.ofNat 32 a) bytes.length = .ok pas → pa ∈ pas →
      step s = .refused .commandStreamModified)

/-- Where the next event spawns a thread whose EUID and TID no existing thread has, fewer than NUM_EUS * THREADS_PER_EU
threads exist, fewer than THREADS_PER_EU on its EU, and no more than NUM_EUS EUs would be in use, the thread is added
and nothing else changes; where one of these fails, only the event is taken off. Where it ends the thread in a slot,
that thread is gone, every other one stays as it is and in its order, and no thread has its EUID and TID any more;
nothing else changes, and where no thread is in the slot only the event is taken off. That threads are spawned and
end by events, and that nothing happens without a slot, is the model's choice (log entry 23). (R73; R88; R33;
00_scope.md R17; 00_scope.md R19). -/
def Obligations.SpawnFillsAndEndFreesASlot : Prop :=
  (∀ (s : State) (u : EuThread) (l : List Event), s.schedule = .spawnThread u :: l →
    ((∀ v ∈ s.threads, v.euid ≠ u.euid ∨ v.tid ≠ u.tid) →
      s.threads.length < s.variant.numEus * s.variant.threadsPerEu →
      (s.threads.filter fun v => decide (v.euid = u.euid)).length < s.variant.threadsPerEu →
      (u.euid :: s.threads.map EuThread.euid).dedup.length ≤ s.variant.numEus →
      step s = .next { s with schedule := l, threads := s.threads ++ [u] }) ∧
    ((∃ v ∈ s.threads, v.euid = u.euid ∧ v.tid = u.tid) ∨
        s.variant.numEus * s.variant.threadsPerEu ≤ s.threads.length ∨
        s.variant.threadsPerEu ≤ (s.threads.filter fun v => decide (v.euid = u.euid)).length ∨
        s.variant.numEus < (u.euid :: s.threads.map EuThread.euid).dedup.length →
      step s = .next { s with schedule := l })) ∧
  ∀ (s : State) (k : Nat) (l : List Event), s.schedule = .endThread k :: l →
    (∀ u, s.threads[k]? = some u → ∃ a b, s.threads = a ++ u :: b ∧ a.length = k ∧
      step s = .next { s with schedule := l, threads := a ++ b } ∧
      (threadsDistinct s.threads → ∀ v ∈ a ++ b, v.euid ≠ u.euid ∨ v.tid ≠ u.tid)) ∧
    (s.threads[k]? = none → step s = .next { s with schedule := l })

/-- For each of the five bases that is set: the effective address of an offset is the base times 4096 plus the offset
where that is below 2^32, and the access is refused AddressOverflow where it is not (the spec's own decision D14;
DEDUCED, log entry 29). (R111). -/
def Obligations.EffectiveAddressIsBasePlusOffset : Prop :=
  ∀ (g : Gpe) (k : BaseKind) (b : BitVec 20) (o : Nat), g.base k = .holds b →
    (b.toNat * 2 ^ 12 + o < 2 ^ 32 → g.effectiveAddress k o = .ok (b.toNat * 2 ^ 12 + o)) ∧
    (2 ^ 32 ≤ b.toNat * 2 ^ 12 + o → g.effectiveAddress k o = .error .addressOverflow)

/-- With base and bound set, the sum below 2^32 and the address at or beyond a bound that is in force (not 0, nor FFFFFh
for indirect objects): a General State or Instruction read gives a free value, an indirect object read gives 0, a
Dynamic State read is refused. No such read faults. (R112; R113; R114; R115; R116). -/
def Obligations.ReadsBeyondABound : Prop :=
  ∀ (s : State) (k : BaseKind) (v b : BitVec 20) (o : Nat), s.gpe.base k = .holds v → s.gpe.bound k = some (.holds b) →
    v.toNat * 4096 + o < 4294967296 → b ≠ 0 → (k = .indirectObject → b ≠ 0xFFFFF) →
    b.toNat * 4096 ≤ v.toNat * 4096 + o →
    s.readIndirectByte k o = match k with
      | .general => .next (Config.generalStateUndefinedByte s.freeCounter (v.toNat * 4096 + o))
      | .instruction => .next (Config.instructionUndefinedByte s.freeCounter (v.toNat * 4096 + o))
      | .indirectObject => .next 0
      | .dynamicState => .refused .dynamicStateOutOfBounds
      | .surface => .refused .dynamicStateOutOfBounds

/-- With the base set, the sum below 2^32, and the bound set and either disabled (0, or FFFFFh for indirect objects) or
above the address, or no bound at all (Surface State): the read gives the byte the Graphics Address holds where its
page is mapped and a GTT error where it is not. That the table is the render parser's is the model's choice (log
entry 9). (R112; R53; R98; R765). -/
def Obligations.ReadsBelowABound : Prop :=
  ∀ (s : State) (k : BaseKind) (v : BitVec 20) (o : Nat), s.gpe.base k = .holds v →
    v.toNat * 4096 + o < 4294967296 →
    (k = .surface ∨ ∃ b, s.gpe.bound k = some (.holds b) ∧
      (b = 0 ∨ (k = .indirectObject ∧ b = 0xFFFFF) ∨ v.toNat * 4096 + o < b.toNat * 4096)) →
    (∀ c, s.readGfx (s.tableIdOf .render) (BitVec.ofNat 32 (v.toNat * 4096 + o)) = some c →
      s.readIndirectByte k o = .next c) ∧
    (s.readGfx (s.tableIdOf .render) (BitVec.ofNat 32 (v.toNat * 4096 + o)) = none →
      s.readIndirectByte k o = .fault (.gttError (BitVec.ofNat 32 (v.toNat * 4096 + o))))

/-- Where the next event is a stateless DataPort write, or a write of a thread to its scratch space, with base and bound
set and no byte past 2^32: of its bytes the n below the bound (all of them where the bound is 0) are stored at the
physical addresses the table gives, where none is live for a parser, and nothing else changes: the bytes at the bound
and beyond are dropped, and unmapped pages there raise no fault. An unmapped byte below the bound is a GTT error, a
live one CommandStreamModified. The events and the table are the model's choice (log entries 9, 23, 29). (R113; R112;
R766; R765; 10_state.md R76). -/
def Obligations.WritesBeyondTheGeneralBoundAreDropped : Prop :=
  ∀ (s : State) (ev : Event) (o n : Nat) (bytes : List Byte) (l : List Event) (v b : BitVec 20),
    s.schedule = ev :: l →
    ((∃ w : Word, ev = .dataPortWrite w bytes ∧ o = w.toNat) ∨
      ∃ k f u, ev = .scratchWrite k f bytes ∧ s.threads[k]? = some u ∧ o = u.scratchOffset + f) →
    s.gpe.generalStateBase = .holds v → s.gpe.generalStateBound = .holds b →
    v.toNat * 4096 + o + bytes.length ≤ 4294967296 →
    n = (if b = 0 then bytes.length else min bytes.length (b.toNat * 4096 - (v.toNat * 4096 + o))) →
    (∀ pas, (s.tableOf .render).plan (BitVec.ofNat 32 (v.toNat * 4096 + o)) n = .ok pas →
      (s.streamModified pas = false →
        step s = .next { s with schedule := l, phys := writePhys s.phys pas (bytes.take n) }) ∧
      (s.streamModified pas = true → step s = .refused .commandStreamModified)) ∧
    (∀ a, (s.tableOf .render).plan (BitVec.ofNat 32 (v.toNat * 4096 + o)) n = .error a →
      step s = .fault (.gttError a))

/-- From every state that meets the invariant, whatever a step answers as a next state meets it: memory and registers in
canonical form, tables sorted, the global table not 64 KB, every programmed ring and the batch buffer heads as R41
and R42 say, no reserved pipeline or control state bit held, the indirect object bound and the instruction bound
above their bases where in force, threads told apart by EUID and TID and no more than the hardware has slots for, the
URB's handles rising, at most 16 lines in the command FIFO (what the FIFO holds, and how threads come and go, are log
entries 23, 24, 50). (R41; R42; R48; R50; R73; R33; R96; R97; R200; R201). -/
def Obligations.StepKeepsTheInvariant : Prop :=
  ∀ s t : State, s.Inv → step s = .next t → t.Inv

/-- The reset state meets the invariant that every step keeps, for both variants, every legal size of the translation
tables and whatever commands it accepts. (R801; R84; R85; 00_scope.md R7; R96). -/
def Obligations.ResetIsWellKept : Prop :=
  State.reset.Inv ∧
  ∀ (v : Config.Variant) (g p : TableSize) (a : Accepted), g ≠ .kb64 → (State.resetWith v g p a).Inv

/-- From a state that meets the invariant, every state any number of steps reaches meets it, and in it the pc of every
engine whose ring is programmed is a multiple of 4 and S.PipelineSelect does not hold 3. (R45; R50; R41). -/
def Obligations.ReachableStatesAreWellKept : Prop :=
  ∀ s t : State, s.Inv → Reachable s t →
    t.Inv ∧ (∀ e, (t.parser e).ring.valid = true → (t.parser e).pc.toNat % 4 = 0) ∧ t.gpe.pipelineSelect ≠ .holds 3

/-- After reset every GPE variable is unset, no ring is valid and no batch buffer active, every parser is idle, no opaque
state is held, every cache and buffer is empty, no URB entry and no thread exists, the interrupt trace is empty, and
neither MI_USER_INTERRUPT nor MI_REPORT_HEAD is accepted. That the VCS DMA's copies of head and tail are 0 is the
model's choice (DESIGN CHOICE, log entry 24). (R801; R84; R85; R87; R88). -/
def Obligations.ResetLeavesAllUnset : Prop :=
  State.reset.gpe = ⟨.unset, .unset, .unset, .unset, .unset, .unset, .unset, .unset, .unset, .unset, .unset, .unset, .unset,
      .unset, .unset, .unset, .unset, .unset, .unset, .unset⟩ ∧
  (∀ e, (State.reset.parser e).ring.valid = false ∧ (State.reset.parser e).bb.active = false ∧
    (State.reset.parser e).idle = true) ∧
  State.reset.opaqueState = [] ∧ State.reset.hidden = ⟨[], [], [], [], [], [], [], [], [], [], 0, 0, [], []⟩ ∧
  State.reset.threads = [] ∧ State.reset.urb = [] ∧ State.reset.interrupts = [] ∧
  State.reset.accepted = ⟨false, false⟩

/-- The offsets of the registers R62 to R68 name are distinct multiples of 4, 166 DWords in all:
GPGPU_THREADS_DISPATCHED, whose width R63 does not give, counts as one DWord (log entry 35), a 64-bit register as two
(log entry 34). Each row of the render context image starts where the one before it ends; the total is 2208 DWords;
the header at DWord 1, 65, ... claims NN and lists n DWords as the comparison table says. (R62; R63; R64; R65; R66;
R67; R68; R740; R741). -/
def Obligations.RegisterAndContextTablesAddUp : Prop :=
  ((registerTable.flatMap RegisterRow.offsets).Nodup ∧ (∀ o ∈ registerTable.flatMap RegisterRow.offsets, o % 4 = 0) ∧
    (registerTable.flatMap RegisterRow.offsets).length = 166) ∧
  contiguousFrom 0 renderImage = true ∧ imageLength renderImage = 2208 ∧
  headerCounts renderImage = [(1, 93, 50), (65, 213, 214), (281, 75, 76), (359, 19, 20), (381, 63, 64), (447, 53, 52),
    (529, 23, 24), (561, 95, 92), (685, 91, 88), (932, 11, 8), (963, 17, 14), (991, 17, 14), (1019, 3, 2), (1065, 3, 0),
    (1077, 3, 0), (1681, 39, 40)]

/-- A push or a pop changes the mask stack of the thread in the slot alone: the newest entry is held on chip where fewer
than 16 were there and in scratch space where 16 were. Data returned to a URB entry reads back under its handle, and
every other entry reads as before. A line loaded into a cache is in it beside those that were; one loaded into the
LLC takes the place of the same line number there, and a VUE handle that of the same vertex index. A selective flush
takes exactly the lines with GFDT set out of the LLC, a whole flush or invalidation every line of its cache. Each
cache event leaves every other cache as it was, and no cache event changes anything but caches: the command FIFO, the
copies the DMA holds and the scratch pages stay. That these come as events is the model's choice (log entries 23, 24,
50). (10_state.md R76; 10_state.md R79; 10_state.md R81; 20_memory.md R93; 20_memory.md R132; 20_memory.md R133). -/
def Obligations.OnChipEvents : Prop :=
  ∀ (s : State) (l : List Event),
    (∀ k m u, s.schedule = .pushMask k m :: l → s.threads[k]? = some u → ∃ u' : EuThread,
      step s = .next { s with schedule := l, threads := s.threads.set k u' } ∧
      u' = { u with maskStack := u'.maskStack } ∧
      (u.maskStack.length < 16 → u'.maskOnChip = u.maskOnChip ++ [m] ∧ u'.maskInScratch = []) ∧
      (16 ≤ u.maskStack.length → u'.maskOnChip = u.maskOnChip ∧ u'.maskInScratch = u.maskInScratch ++ [m])) ∧
    (∀ k u, s.schedule = .popMask k :: l → s.threads[k]? = some u →
      step s = .next { s with
        schedule := l
        threads := s.threads.set k { u with maskStack := u.maskStack.dropLast } }) ∧
    (∀ h e, s.schedule = .urbWrite h e :: l → ∃ t, step s = .next t ∧ t.urbEntry h = some e ∧
      (∀ k, k ≠ h → t.urbEntry k = s.urbEntry k) ∧ t = { s with schedule := l, urb := t.urb }) ∧
    (∀ op, s.schedule = .cache op :: l → ∃ h : Hidden, step s = .next { s with schedule := l, hidden := h } ∧
      h = { s.hidden with
        isc := h.isc, texture := h.texture, render := h.render, constant := h.constant, vertex := h.vertex, l3 := h.l3
        llc := h.llc, mlc := h.mlc, ppgttDirectory := h.ppgttDirectory } ∧
      (∀ c n, op = .fill c n → (∀ x, x ∈ h.lines c ↔ x = n ∨ x ∈ s.hidden.lines c) ∧
        (∀ d, d ≠ c → h.lines d = s.hidden.lines d) ∧ h.llc = s.hidden.llc ∧ h.vertex = s.hidden.vertex) ∧
      (∀ y, op = .fillLlc y → (∀ x, x ∈ h.llc ↔ x = y ∨ x ∈ s.hidden.llc ∧ x.line ≠ y.line) ∧
        (∀ d, h.lines d = s.hidden.lines d) ∧ h.vertex = s.hidden.vertex) ∧
      (∀ v, op = .fillVertex v →
        (∀ x, x ∈ h.vertex ↔ x = v ∨ x ∈ s.hidden.vertex ∧ x.vertexIndex ≠ v.vertexIndex) ∧
        (∀ d, h.lines d = s.hidden.lines d) ∧ h.llc = s.hidden.llc) ∧
      (op = .flushLlcGfdt → (∀ x, x ∈ h.llc ↔ x ∈ s.hidden.llc ∧ x.gfdt = false) ∧
        (∀ d, h.lines d = s.hidden.lines d) ∧ h.vertex = s.hidden.vertex) ∧
      (∀ c, op = .empty c → h.lines c = [] ∧ (∀ d, d ≠ c → h.lines d = s.hidden.lines d) ∧
        h.llc = s.hidden.llc ∧ h.vertex = s.hidden.vertex))

/-- For every block, texel and channel of BC6H_UF16 whose two endpoints lie in the precision of the mode, and for every
reserved mode, the float16 pattern is at most 7BFFh. (An endpoint outside its precision gives a free value, log entry
38.) (R627; R629; R625). -/
def Obligations.Bc6hUnsignedNeverLeavesTheFinite : Prop :=
  ∀ (b : BitVec 128) (n : Nat) (c : Formats.RgbChannel),
    (∀ m, Formats.bc6hMode b = some m →
      Formats.inPrecision .uf16 m.precision (Formats.bc6hEndpoint .uf16 m b c (m.ends b n).1) = true ∧
      Formats.inPrecision .uf16 m.precision (Formats.bc6hEndpoint .uf16 m b c (m.ends b n).2) = true) →
    (Formats.bc6hTexel .uf16 b n c).toNat ≤ 0x7BFF

/-- For every block with bits 7:0 zero and every texel, red, green and blue are 0, in BC7_UNORM_SRGB too. Its alpha is
not stated (log entry 38). (R641). -/
def Obligations.Bc7ReservedModeIsBlack : Prop :=
  ∀ (b : BitVec 128) (n : Nat), b.extractLsb' 0 8 = 0 →
    (Formats.bc7Texel b n).r = 0 ∧ (Formats.bc7Texel b n).g = 0 ∧ (Formats.bc7Texel b n).b = 0 ∧
    (Formats.bc7Srgb b n).red = 0 ∧ (Formats.bc7Srgb b n).green = 0 ∧ (Formats.bc7Srgb b n).blue = 0

/-- For every block and texel of BC7 each of the four channels is at most 255: endpoints are bytes and the palette
weights interpolate between them. (R643; R644; R648; R630). -/
def Obligations.Bc7ChannelsAreBytes : Prop :=
  ∀ (b : BitVec 128) (n : Nat), (Formats.bc7Texel b n).r ≤ 255 ∧ (Formats.bc7Texel b n).g ≤ 255 ∧
    (Formats.bc7Texel b n).b ≤ 255 ∧ (Formats.bc7Texel b n).a ≤ 255

/-- For every block, row and column of BC4_UNORM: where the first stored color is the greater, or the code of the texel
is below 6, the red channel lies between the two colors the block stores, ends included; where it is not the greater,
code 6 gives 0 and code 7 gives 1. In every case the channel lies from 0 to 1. That the stored bytes are compared as
integers and the interpolation is exact is the spec's own decision D26. (R600; R501). -/
def Obligations.Bc4InterpolatesBetweenItsColors : Prop :=
  ∀ (b : BitVec 64) (y x : Nat),
    let r0 := bitsOf b 7 0
    let r1 := bitsOf b 15 8
    let c := Formats.code3 b y x
    let t := Formats.bc4Texel .unorm b y x
    (r1 < r0 ∨ c < 6 → min (Formats.unorm 8 r0) (Formats.unorm 8 r1) ≤ t ∧
      t ≤ max (Formats.unorm 8 r0) (Formats.unorm 8 r1)) ∧
    (r0 ≤ r1 → (c = 6 → t = 0) ∧ (c = 7 → t = 1)) ∧ 0 ≤ t ∧ t ≤ 1

/-- Each of the 64 TWO and 64 THREE partitions has a fix-up texel for each line, number k on line k, and no line number
above those; the first 32 TWO partitions are those of BC6H. (Partitions the spec marks as general knowledge are
PRESUMED, log entry 38.) (R628; R646; R647). -/
def Obligations.PartitionSetsNameTheirFixups : Prop :=
  (∀ p ∈ Formats.twoPartitions, p.fixups.length = 2 ∧ (∀ k < 2, p.line (p.fixups.getD k 0) = k) ∧ ∀ n < 16, p.line n < 2) ∧
  (∀ p ∈ Formats.threePartitions, p.fixups.length = 3 ∧ (∀ k < 3, p.line (p.fixups.getD k 0) = k) ∧
    ∀ n < 16, p.line n < 3) ∧
  Formats.twoPartitions.length = 64 ∧ Formats.threePartitions.length = 64 ∧
  Formats.twoPartitions.take 32 = Formats.twoPartitionsLow

/-- For every size and every alignment unit greater than 0, i * ceil(W / i) is a multiple of i, is at least W, and is at
most every other multiple of i that is at least W. (R668; R701). -/
def Obligations.PaddedSizeIsTheLeastMultiple : Prop :=
  ∀ w i : Nat, 0 < i → Surface.roundUp w i % i = 0 ∧ w ≤ Surface.roundUp w i ∧
    ∀ m, m % i = 0 → w ≤ m → Surface.roundUp w i ≤ m

/-- For all padded sizes the origins of LOD 0 to 4 in MIPLAYOUT_BELOW are (0,0), (0,h0), (w1,h0), (w1,h0+h2),
(w1,h0+h2+h3), as printed; the general form (w1, h0 + h2 + ... + h(L-1)) is the spec's own inference from the printed
pattern (R670 marks it derived). For every volume, LOD 0 to 3 and every plane, the origin is the one the four printed
equations give. (R670; R686; R685). -/
def Obligations.MipOriginsAreAsPrinted : Prop :=
  (∀ size : Nat → Surface.Extent,
    Surface.lodOrigin .below size 0 = ⟨0, 0⟩ ∧ Surface.lodOrigin .below size 1 = ⟨0, (size 0).y⟩ ∧
    Surface.lodOrigin .below size 2 = ⟨(size 1).x, (size 0).y⟩ ∧
    Surface.lodOrigin .below size 3 = ⟨(size 1).x, (size 0).y + (size 2).y⟩ ∧
    Surface.lodOrigin .below size 4 = ⟨(size 1).x, (size 0).y + (size 2).y + (size 3).y⟩ ∧
    ∀ l, 2 ≤ l → Surface.lodOrigin .below size (l + 1) =
      ⟨(size 1).x, (Surface.lodOrigin .below size l).y + (size l).y⟩) ∧
  ∀ (u : Surface.AlignmentUnit) (w h d q : Nat),
    let sz := fun l => Surface.lodSize u w h l
    let dp := fun l => Surface.mipSize d l
    Surface.volumeOrigin u w h d 0 q = ⟨0, q * (sz 0).y⟩ ∧
    Surface.volumeOrigin u w h d 1 q = ⟨q % 2 * (sz 1).x, dp 0 * (sz 0).y + q / 2 * (sz 1).y⟩ ∧
    Surface.volumeOrigin u w h d 2 q =
      ⟨q % 4 * (sz 2).x, dp 0 * (sz 0).y + Surface.ceilDiv (dp 1) 2 * (sz 1).y + q / 4 * (sz 2).y⟩ ∧
    Surface.volumeOrigin u w h d 3 q =
      ⟨q % 8 * (sz 3).x, dp 0 * (sz 0).y + Surface.ceilDiv (dp 1) 2 * (sz 1).y + Surface.ceilDiv (dp 2) 4 * (sz 2).y +
        q / 8 * (sz 3).y⟩

/-- Where the next event is an access of the sampling engine or the data port to a surface whose layout the source gives,
all of whose bytes lie below 2^32: with every byte of the extended surface mapped the step changes nothing but the
schedule; with any byte of it, padding among them, in an unmapped page the step faults with GTTError of an unmapped
address. What the access answers does not depend on any byte but those of the element asked for, and is nothing where
that lies outside the surface. The event and the table are the model's choice (log entries 9, 47); that a model reads
the extended surface so is the spec's decision D13. (R700; R701; R706; R707; R765). -/
def Obligations.SurfaceAccessReadsTheExtendedSurface : Prop :=
  (∀ (s : State) (a : Surface.Access) (x : List Surface.Span) (l : List Event),
    s.schedule = .surfaceAccess a :: l → a.touched = some x →
    (∀ p ∈ x, a.base.toNat + p.offset + p.bytes ≤ 4294967296) →
    ((∀ p ∈ x, ∀ k < p.bytes,
        ((s.tableOf .render).translate (BitVec.ofNat 32 (a.base.toNat + p.offset + k))).isSome = true) →
      step s = .next { s with schedule := l }) ∧
    ((∃ p ∈ x, ∃ k < p.bytes,
        (s.tableOf .render).translate (BitVec.ofNat 32 (a.base.toNat + p.offset + k)) = none) →
      ∃ b, step s = .fault (.gttError b) ∧ (s.tableOf .render).translate b = none)) ∧
  (∀ (s t : State) (a : Surface.Access), (∀ i, t.tableById i = s.tableById i) → t.unitTable = s.unitTable →
    (∀ p pas, p = a.shape.elementSpan a.coordinate →
      (s.tableOf .render).plan (BitVec.ofNat 32 (a.base.toNat + p.offset)) p.bytes = .ok pas →
      ∀ q ∈ pas, readPhys t.phys q = readPhys s.phys q) →
    t.surfaceAccess a = s.surfaceAccess a) ∧
  ∀ (s : State) (a : Surface.Access) (r : Option Surface.Element), a.shape.inside a.coordinate = false →
    s.surfaceAccess a = .next r → r = none
end

