-- ==== Sys2Proof/Laws/Assoc.lean ====
section
/-! SUPPORT. Sparse data by number: read after write, and the canonical form is kept and determines the list. -/

namespace Sys2Proof.Assoc

variable {α : Type}

/-! ## Reading what was written -/

theorem find?_insert_self (k : Nat) (v : α) (l : List (Nat × α)) : find? k (insert k v l) = some v := by
  induction l with
  | nil => simp [insert, find?]
  | cons x rest ih =>
    obtain ⟨j, u⟩ := x
    simp only [insert]
    split
    · simp [find?]
    · split
      · simp [find?]
      · rename_i h1 h2
        simp [find?, Ne.symm h2, ih]

theorem find?_insert_ne {k j : Nat} (h : j ≠ k) (v : α) (l : List (Nat × α)) :
    find? j (insert k v l) = find? j l := by
  induction l with
  | nil => simp [insert, find?, Ne.symm h]
  | cons x rest ih =>
    obtain ⟨i, u⟩ := x
    simp only [insert]
    split
    · simp [find?, Ne.symm h]
    · split
      · rename_i h2; subst h2; simp [find?, Ne.symm h]
      · simp only [find?, ih]

theorem find?_erase_self (k : Nat) (l : List (Nat × α)) : find? k (erase k l) = none := by
  induction l with
  | nil => rfl
  | cons x rest ih =>
    obtain ⟨j, u⟩ := x
    simp only [erase]
    split
    · exact ih
    · rename_i h; simp [find?, h, ih]

theorem find?_erase_ne {k j : Nat} (h : j ≠ k) (l : List (Nat × α)) : find? j (erase k l) = find? j l := by
  induction l with
  | nil => rfl
  | cons x rest ih =>
    obtain ⟨i, u⟩ := x
    simp only [erase]
    split
    · rename_i h2; subst h2; simp [find?, Ne.symm h, ih]
    · simp only [find?, ih]

@[simp] theorem read_nil (d : α) (k : Nat) : read d k [] = d := rfl

variable [DecidableEq α]

/-- A read after a write to the same key gives what was written. -/
theorem read_write_self (d : α) (k : Nat) (v : α) (l : List (Nat × α)) : read d k (write d k v l) = v := by
  unfold read write
  split
  · rename_i h; simp [find?_erase_self, h]
  · simp [find?_insert_self]

/-- A write leaves every other key as it was. -/
theorem read_write_ne (d : α) {k j : Nat} (h : j ≠ k) (v : α) (l : List (Nat × α)) :
    read d j (write d k v l) = read d j l := by
  unfold read write
  split
  · rw [find?_erase_ne h]
  · rw [find?_insert_ne h]

theorem read_write (d : α) (k j : Nat) (v : α) (l : List (Nat × α)) :
    read d j (write d k v l) = if j = k then v else read d j l := by
  by_cases h : j = k
  · subst h; simp [read_write_self]
  · simp [h, read_write_ne]

/-! ## The canonical form -/

omit [DecidableEq α] in
theorem above_insert {i k : Nat} (h : i < k) (v : α) (l : List (Nat × α)) (hl : above i l = true) :
    above i (insert k v l) = true := by
  induction l with
  | nil => simp [insert, above, h]
  | cons x rest ih =>
    obtain ⟨j, u⟩ := x
    simp only [above, Bool.and_eq_true, decide_eq_true_eq] at hl
    simp only [insert]
    split
    · simp [above, h, hl.1, hl.2]
    · split
      · simp [above, h, hl.2]
      · simp [above, hl.1, ih hl.2]

omit [DecidableEq α] in
theorem above_erase {i k : Nat} (l : List (Nat × α)) (hl : above i l = true) : above i (erase k l) = true := by
  induction l with
  | nil => rfl
  | cons x rest ih =>
    obtain ⟨j, u⟩ := x
    simp only [above, Bool.and_eq_true, decide_eq_true_eq] at hl
    simp only [erase]
    split
    · exact ih hl.2
    · simp [above, hl.1, ih hl.2]

omit [DecidableEq α] in
theorem above_mono {i k : Nat} (h : i ≤ k) (l : List (Nat × α)) (hl : above k l = true) : above i l = true := by
  induction l with
  | nil => rfl
  | cons x rest ih =>
    obtain ⟨j, u⟩ := x
    simp only [above, Bool.and_eq_true, decide_eq_true_eq] at hl ⊢
    exact ⟨by omega, ih hl.2⟩

omit [DecidableEq α] in
theorem sorted_insert (k : Nat) (v : α) (l : List (Nat × α)) (hl : sorted l = true) : sorted (insert k v l) = true := by
  induction l with
  | nil => simp [insert, sorted, above]
  | cons x rest ih =>
    obtain ⟨j, u⟩ := x
    simp only [sorted, Bool.and_eq_true] at hl
    simp only [insert]
    split
    · rename_i h
      simp [sorted, above, h, hl.1, hl.2, above_mono (le_of_lt h) rest hl.1]
    · split
      · rename_i h; subst h; simp [sorted, hl.1, hl.2]
      · simp [sorted, ih hl.2, above_insert (show j < k by omega) v rest hl.1]

omit [DecidableEq α] in
theorem sorted_erase (k : Nat) (l : List (Nat × α)) (hl : sorted l = true) : sorted (erase k l) = true := by
  induction l with
  | nil => rfl
  | cons x rest ih =>
    obtain ⟨j, u⟩ := x
    simp only [sorted, Bool.and_eq_true] at hl
    simp only [erase]
    split
    · exact ih hl.2
    · simp [sorted, ih hl.2, above_erase rest hl.1]

theorem noDefault_insert (d : α) (k : Nat) {v : α} (hv : v ≠ d) (l : List (Nat × α)) (hl : noDefault d l = true) :
    noDefault d (insert k v l) = true := by
  induction l with
  | nil => simp [insert, noDefault, hv]
  | cons x rest ih =>
    obtain ⟨j, u⟩ := x
    simp only [noDefault, Bool.and_eq_true, decide_eq_true_eq] at hl
    simp only [insert]
    split
    · simp [noDefault, hv, hl.1, hl.2]
    · split
      · simp [noDefault, hv, hl.2]
      · simp [noDefault, hl.1, ih hl.2]

theorem noDefault_erase (d : α) (k : Nat) (l : List (Nat × α)) (hl : noDefault d l = true) :
    noDefault d (erase k l) = true := by
  induction l with
  | nil => rfl
  | cons x rest ih =>
    obtain ⟨j, u⟩ := x
    simp only [noDefault, Bool.and_eq_true, decide_eq_true_eq] at hl
    simp only [erase]
    split
    · exact ih hl.2
    · simp [noDefault, hl.1, ih hl.2]

/-- A write keeps the canonical form. -/
theorem canonical_write (d : α) (k : Nat) (v : α) (l : List (Nat × α)) (hl : canonical d l = true) :
    canonical d (write d k v l) = true := by
  simp only [canonical, Bool.and_eq_true] at hl ⊢
  unfold write
  split
  · exact ⟨sorted_erase k l hl.1, noDefault_erase d k l hl.2⟩
  · rename_i h; exact ⟨sorted_insert k v l hl.1, noDefault_insert d k h l hl.2⟩

@[simp] theorem canonical_nil (d : α) : canonical d ([] : List (Nat × α)) = true := rfl

omit [DecidableEq α] in
theorem find?_of_above {i k : Nat} (h : k ≤ i) (l : List (Nat × α)) (hl : above i l = true) : find? k l = none := by
  induction l with
  | nil => rfl
  | cons x rest ih =>
    obtain ⟨j, u⟩ := x
    simp only [above, Bool.and_eq_true, decide_eq_true_eq] at hl
    simp [find?, show j ≠ k by omega, ih hl.2]

/-- Two lists in canonical form that read alike are equal. -/
theorem canonical_ext (d : α) (l m : List (Nat × α)) (hl : canonical d l = true) (hm : canonical d m = true)
    (h : ∀ k, read d k l = read d k m) : l = m := by
  induction l generalizing m with
  | nil =>
    cases m with
    | nil => rfl
    | cons y rest =>
      obtain ⟨j, v⟩ := y
      have := h j
      simp [canonical, sorted, noDefault, read, find?] at this hm
      exact absurd this.symm hm.2.1
  | cons x rest ih =>
    obtain ⟨i, u⟩ := x
    cases m with
    | nil =>
      have := h i
      simp [canonical, sorted, noDefault, read, find?] at this hl
      exact absurd this hl.2.1
    | cons y rest' =>
      obtain ⟨j, v⟩ := y
      simp only [canonical, sorted, noDefault, Bool.and_eq_true, decide_eq_true_eq] at hl hm
      have hij : i = j := by
        rcases Nat.lt_trichotomy i j with hlt | heq | hgt
        · have h1 := h i
          simp [read, find?, Nat.ne_of_gt hlt, find?_of_above (le_of_lt hlt) rest' hm.1.1] at h1
          exact absurd h1 hl.2.1
        · exact heq
        · have h1 := h j
          simp [read, find?, Nat.ne_of_gt hgt, find?_of_above (le_of_lt hgt) rest hl.1.1] at h1
          exact absurd h1.symm hm.2.1
      subst hij
      have huv : u = v := by have := h i; simpa [read, find?] using this
      subst huv
      have hrest : rest = rest' := by
        refine ih rest' (by simp [canonical, hl.1.2, hl.2.2]) (by simp [canonical, hm.1.2, hm.2.2]) fun k => ?_
        by_cases hk : i = k
        · subst hk
          simp [read, find?_of_above (le_refl i) rest hl.1.1, find?_of_above (le_refl i) rest' hm.1.1]
        · have := h k
          simpa [read, find?, hk] using this
      rw [hrest]

end Sys2Proof.Assoc
end

