-- ==== Sys2Proof/Laws/Encoding.lean ====
section
/-! SUPPORT. Fields of an encoded DWord: each is a field of the part of the DWord that holds it. -/

namespace Sys2Proof

/-- A field of the high part of a concatenation. -/
theorem field_append_high {m n : Nat} (a : BitVec m) (b : BitVec n) (w : Word) (hw : w.toNat = (a ++ b).toNat)
    {lo len : Nat} (h : n ≤ lo) : field w lo len = a.extractLsb' (lo - n) len := by
  apply BitVec.eq_of_toNat_eq
  simp only [field, BitVec.extractLsb'_toNat, hw, BitVec.toNat_append]
  congr 1
  apply Nat.eq_of_testBit_eq
  intro i
  simp only [Nat.testBit_shiftRight, Nat.testBit_or, Nat.testBit_shiftLeft]
  have hb : b.toNat.testBit (lo + i) = false :=
    Nat.testBit_lt_two_pow (lt_of_lt_of_le b.isLt (Nat.pow_le_pow_right (by decide) (by omega)))
  simp [hb, show n ≤ lo + i by omega, show lo + i - n = lo - n + i by omega]

/-- A field of the low part of a concatenation. -/
theorem field_append_low {m n : Nat} (a : BitVec m) (b : BitVec n) (w : Word) (hw : w.toNat = (a ++ b).toNat)
    {lo len : Nat} (h : lo + len ≤ n) : field w lo len = b.extractLsb' lo len := by
  apply BitVec.eq_of_getLsbD_eq
  intro i hi
  simp only [field, BitVec.getLsbD_extractLsb', hi, decide_true, Bool.true_and]
  simp only [BitVec.getLsbD, hw, BitVec.toNat_append, Nat.testBit_or, Nat.testBit_shiftLeft]
  simp [show ¬ n ≤ lo + i by omega]

theorem field_encodeHeader16_high (a d : BitVec 16) {lo len : Nat} (h : 16 ≤ lo) :
    field (encodeHeader16 a d) lo len = a.extractLsb' (lo - 16) len :=
  field_append_high a d _ rfl h

theorem field_encodeHeader16_low (a d : BitVec 16) {lo len : Nat} (h : lo + len ≤ 16) :
    field (encodeHeader16 a d) lo len = d.extractLsb' lo len :=
  field_append_low a d _ rfl h

theorem field_encodeHeaderMi_high (a : BitVec 9) (d : BitVec 23) {lo len : Nat} (h : 23 ≤ lo) :
    field (encodeHeaderMi a d) lo len = a.extractLsb' (lo - 23) len :=
  field_append_high a d _ rfl h

theorem field_encodeHeaderMi_low (a : BitVec 9) (d : BitVec 23) {lo len : Nat} (h : lo + len ≤ 23) :
    field (encodeHeaderMi a d) lo len = d.extractLsb' lo len :=
  field_append_low a d _ rfl h

theorem field_encodeHeader2d_high (a : BitVec 10) (d : BitVec 22) {lo len : Nat} (h : 22 ≤ lo) :
    field (encodeHeader2d a d) lo len = a.extractLsb' (lo - 22) len :=
  field_append_high a d _ rfl h

theorem field_encodeHeader2d_low (a : BitVec 10) (d : BitVec 22) {lo len : Nat} (h : lo + len ≤ 22) :
    field (encodeHeader2d a d) lo len = d.extractLsb' lo len :=
  field_append_low a d _ rfl h

/-! ## The decoder's fields of an encoded DWord -/

@[simp] theorem lenHeader_encodeLen (op : BitVec 16) (h : LenHeader) : lenHeader (encodeLen op h) = h := by
  obtain ⟨a, b⟩ := h
  simp only [lenHeader, encodeLen, LenHeader.mk.injEq]
  constructor <;>
  · rw [field_encodeHeader16_low _ _ (by decide)]
    apply BitVec.eq_of_getLsbD_eq
    intro i hi
    simp only [BitVec.getLsbD_extractLsb', BitVec.getLsbD_append, hi, decide_true, Bool.true_and]
    repeat' split
    all_goals first | omega | (congr 1; omega)

@[simp] theorem sbaGeneral_encode (d : SbaGeneral) : sbaGeneral (encodeSbaGeneral d) = d := by
  obtain ⟨a, b, c, e, f, g⟩ := d
  simp only [sbaGeneral, encodeSbaGeneral, SbaGeneral.mk.injEq]
  refine ⟨?_, ?_, ?_, ?_, ?_, ?_⟩ <;>
  · apply BitVec.eq_of_getLsbD_eq
    intro i hi
    change (BitVec.extractLsb' _ _ (a ++ b ++ c ++ e ++ f ++ g)).getLsbD i = _
    simp only [BitVec.getLsbD_extractLsb', BitVec.getLsbD_append, hi, decide_true, Bool.true_and]
    repeat' split
    all_goals first | omega | (congr 1; omega)

@[simp] theorem sbaBase_encode (d : SbaBase) : sbaBase (encodeSbaBase d) = d := by
  obtain ⟨a, b, c, e⟩ := d
  simp only [sbaBase, encodeSbaBase, SbaBase.mk.injEq]
  refine ⟨?_, ?_, ?_, ?_⟩ <;>
  · apply BitVec.eq_of_getLsbD_eq
    intro i hi
    change (BitVec.extractLsb' _ _ (a ++ b ++ c ++ e)).getLsbD i = _
    simp only [BitVec.getLsbD_extractLsb', BitVec.getLsbD_append, hi, decide_true, Bool.true_and]
    repeat' split
    all_goals first | omega | (congr 1; omega)

@[simp] theorem sbaBound_encode (d : SbaBound) : sbaBound (encodeSbaBound d) = d := by
  obtain ⟨a, b, c⟩ := d
  simp only [sbaBound, encodeSbaBound, SbaBound.mk.injEq]
  refine ⟨?_, ?_, ?_⟩ <;>
  · apply BitVec.eq_of_getLsbD_eq
    intro i hi
    change (BitVec.extractLsb' _ _ (a ++ b ++ c)).getLsbD i = _
    simp only [BitVec.getLsbD_extractLsb', BitVec.getLsbD_append, hi, decide_true, Bool.true_and]
    repeat' split
    all_goals first | omega | (congr 1; omega)

/-- The fields of a DWord made of three parts. -/
theorem fields_append3 {l m n : Nat} (a : BitVec l) (b : BitVec m) (c : BitVec n) (w : Word)
    (hw : w.toNat = (a ++ b ++ c).toNat) :
    field w (m + n) l = a ∧ field w n m = b ∧ field w 0 n = c := by
  refine ⟨?_, ?_, ?_⟩
  · rw [field_append_high (a ++ b) c w hw (by omega)]
    apply BitVec.eq_of_getLsbD_eq
    intro i hi
    simp [BitVec.getLsbD_append, hi]
  · rw [field_append_high (a ++ b) c w hw (by omega)]
    apply BitVec.eq_of_getLsbD_eq
    intro i hi
    simp [BitVec.getLsbD_append, hi]
  · rw [field_append_low (a ++ b) c w hw (by omega)]
    simp

/-- The fields of a DWord made of two parts. -/
theorem fields_append2 {l m : Nat} (a : BitVec l) (b : BitVec m) (w : Word) (hw : w.toNat = (a ++ b).toNat) :
    field w m l = a ∧ field w 0 m = b := by
  refine ⟨?_, ?_⟩
  · rw [field_append_high a b w hw (by omega)]; simp
  · rw [field_append_low a b w hw (by omega)]; simp

/-! ## Bytes and DWords -/

/-- A DWord is the DWord of its bytes (20_memory.md R100). -/
theorem wordOfBytes_bytesOfWord (w : Word) :
    wordOfBytes (w.extractLsb' 0 8) (w.extractLsb' 8 8) (w.extractLsb' 16 8) (w.extractLsb' 24 8) = w := by
  apply BitVec.eq_of_getLsbD_eq
  intro i hi
  change (w.extractLsb' 24 8 ++ w.extractLsb' 16 8 ++ w.extractLsb' 8 8 ++ w.extractLsb' 0 8).getLsbD i = _
  simp only [BitVec.getLsbD_extractLsb', BitVec.getLsbD_append]
  repeat' split
  all_goals
    rw [decide_eq_true (by omega), Bool.true_and]
    congr 1
    omega

@[simp] theorem length_bytesOfWord (w : Word) : (bytesOfWord w).length = 4 := rfl

@[simp] theorem length_bytesOfNat (n v : Nat) : (bytesOfNat n v).length = n := by
  induction n generalizing v with
  | zero => rfl
  | succ n ih => simp [bytesOfNat, ih]

end Sys2Proof
end

