-- ==== Sys2Proof/Laws/State.lean ====
section
/-! SUPPORT. One lemma per field per update of the state, so that no proof unfolds a record update. -/

namespace Sys2Proof.Machine

variable (s : State)

/-! ## `setGpe` -/

@[simp] theorem State.setGpe_variant (v : Gpe) : (s.setGpe v).variant = s.variant := rfl
@[simp] theorem State.setGpe_accepted (v : Gpe) : (s.setGpe v).accepted = s.accepted := rfl
@[simp] theorem State.setGpe_render (v : Gpe) : (s.setGpe v).render = s.render := rfl
@[simp] theorem State.setGpe_video (v : Gpe) : (s.setGpe v).video = s.video := rfl
@[simp] theorem State.setGpe_blitter (v : Gpe) : (s.setGpe v).blitter = s.blitter := rfl
@[simp] theorem State.setGpe_gpe (v : Gpe) : (s.setGpe v).gpe = v := rfl
@[simp] theorem State.setGpe_opaqueState (v : Gpe) : (s.setGpe v).opaqueState = s.opaqueState := rfl
@[simp] theorem State.setGpe_mmio (v : Gpe) : (s.setGpe v).mmio = s.mmio := rfl
@[simp] theorem State.setGpe_namedRegs (v : Gpe) : (s.setGpe v).namedRegs = s.namedRegs := rfl
@[simp] theorem State.setGpe_gtt (v : Gpe) : (s.setGpe v).gtt = s.gtt := rfl
@[simp] theorem State.setGpe_phys (v : Gpe) : (s.setGpe v).phys = s.phys := rfl
@[simp] theorem State.setGpe_threads (v : Gpe) : (s.setGpe v).threads = s.threads := rfl
@[simp] theorem State.setGpe_urb (v : Gpe) : (s.setGpe v).urb = s.urb := rfl
@[simp] theorem State.setGpe_hidden (v : Gpe) : (s.setGpe v).hidden = s.hidden := rfl
@[simp] theorem State.setGpe_interrupts (v : Gpe) : (s.setGpe v).interrupts = s.interrupts := rfl
@[simp] theorem State.setGpe_freeCounter (v : Gpe) : (s.setGpe v).freeCounter = s.freeCounter := rfl
@[simp] theorem State.setGpe_turn (v : Gpe) : (s.setGpe v).turn = s.turn := rfl
@[simp] theorem State.setGpe_schedule (v : Gpe) : (s.setGpe v).schedule = s.schedule := rfl
@[simp] theorem State.setGpe_parser (v : Gpe) (e : Engine) : (s.setGpe v).parser e = s.parser e := by cases e <;> rfl

/-! ## `setOpaque` -/

@[simp] theorem State.setOpaque_variant (v : List OpaqueEntry) : (s.setOpaque v).variant = s.variant := rfl
@[simp] theorem State.setOpaque_accepted (v : List OpaqueEntry) : (s.setOpaque v).accepted = s.accepted := rfl
@[simp] theorem State.setOpaque_render (v : List OpaqueEntry) : (s.setOpaque v).render = s.render := rfl
@[simp] theorem State.setOpaque_video (v : List OpaqueEntry) : (s.setOpaque v).video = s.video := rfl
@[simp] theorem State.setOpaque_blitter (v : List OpaqueEntry) : (s.setOpaque v).blitter = s.blitter := rfl
@[simp] theorem State.setOpaque_gpe (v : List OpaqueEntry) : (s.setOpaque v).gpe = s.gpe := rfl
@[simp] theorem State.setOpaque_opaqueState (v : List OpaqueEntry) : (s.setOpaque v).opaqueState = v := rfl
@[simp] theorem State.setOpaque_mmio (v : List OpaqueEntry) : (s.setOpaque v).mmio = s.mmio := rfl
@[simp] theorem State.setOpaque_namedRegs (v : List OpaqueEntry) : (s.setOpaque v).namedRegs = s.namedRegs := rfl
@[simp] theorem State.setOpaque_gtt (v : List OpaqueEntry) : (s.setOpaque v).gtt = s.gtt := rfl
@[simp] theorem State.setOpaque_phys (v : List OpaqueEntry) : (s.setOpaque v).phys = s.phys := rfl
@[simp] theorem State.setOpaque_threads (v : List OpaqueEntry) : (s.setOpaque v).threads = s.threads := rfl
@[simp] theorem State.setOpaque_urb (v : List OpaqueEntry) : (s.setOpaque v).urb = s.urb := rfl
@[simp] theorem State.setOpaque_hidden (v : List OpaqueEntry) : (s.setOpaque v).hidden = s.hidden := rfl
@[simp] theorem State.setOpaque_interrupts (v : List OpaqueEntry) : (s.setOpaque v).interrupts = s.interrupts := rfl
@[simp] theorem State.setOpaque_freeCounter (v : List OpaqueEntry) : (s.setOpaque v).freeCounter = s.freeCounter := rfl
@[simp] theorem State.setOpaque_turn (v : List OpaqueEntry) : (s.setOpaque v).turn = s.turn := rfl
@[simp] theorem State.setOpaque_schedule (v : List OpaqueEntry) : (s.setOpaque v).schedule = s.schedule := rfl
@[simp] theorem State.setOpaque_parser (v : List OpaqueEntry) (e : Engine) : (s.setOpaque v).parser e = s.parser e := by cases e <;> rfl

/-! ## `setPhys` -/

@[simp] theorem State.setPhys_variant (v : List Host.Cell) : (s.setPhys v).variant = s.variant := rfl
@[simp] theorem State.setPhys_accepted (v : List Host.Cell) : (s.setPhys v).accepted = s.accepted := rfl
@[simp] theorem State.setPhys_render (v : List Host.Cell) : (s.setPhys v).render = s.render := rfl
@[simp] theorem State.setPhys_video (v : List Host.Cell) : (s.setPhys v).video = s.video := rfl
@[simp] theorem State.setPhys_blitter (v : List Host.Cell) : (s.setPhys v).blitter = s.blitter := rfl
@[simp] theorem State.setPhys_gpe (v : List Host.Cell) : (s.setPhys v).gpe = s.gpe := rfl
@[simp] theorem State.setPhys_opaqueState (v : List Host.Cell) : (s.setPhys v).opaqueState = s.opaqueState := rfl
@[simp] theorem State.setPhys_mmio (v : List Host.Cell) : (s.setPhys v).mmio = s.mmio := rfl
@[simp] theorem State.setPhys_namedRegs (v : List Host.Cell) : (s.setPhys v).namedRegs = s.namedRegs := rfl
@[simp] theorem State.setPhys_gtt (v : List Host.Cell) : (s.setPhys v).gtt = s.gtt := rfl
@[simp] theorem State.setPhys_phys (v : List Host.Cell) : (s.setPhys v).phys = v := rfl
@[simp] theorem State.setPhys_threads (v : List Host.Cell) : (s.setPhys v).threads = s.threads := rfl
@[simp] theorem State.setPhys_urb (v : List Host.Cell) : (s.setPhys v).urb = s.urb := rfl
@[simp] theorem State.setPhys_hidden (v : List Host.Cell) : (s.setPhys v).hidden = s.hidden := rfl
@[simp] theorem State.setPhys_interrupts (v : List Host.Cell) : (s.setPhys v).interrupts = s.interrupts := rfl
@[simp] theorem State.setPhys_freeCounter (v : List Host.Cell) : (s.setPhys v).freeCounter = s.freeCounter := rfl
@[simp] theorem State.setPhys_turn (v : List Host.Cell) : (s.setPhys v).turn = s.turn := rfl
@[simp] theorem State.setPhys_schedule (v : List Host.Cell) : (s.setPhys v).schedule = s.schedule := rfl
@[simp] theorem State.setPhys_parser (v : List Host.Cell) (e : Engine) : (s.setPhys v).parser e = s.parser e := by cases e <;> rfl

/-! ## `setMmio` -/

@[simp] theorem State.setMmio_variant (v : List (Nat × Word)) : (s.setMmio v).variant = s.variant := rfl
@[simp] theorem State.setMmio_accepted (v : List (Nat × Word)) : (s.setMmio v).accepted = s.accepted := rfl
@[simp] theorem State.setMmio_render (v : List (Nat × Word)) : (s.setMmio v).render = s.render := rfl
@[simp] theorem State.setMmio_video (v : List (Nat × Word)) : (s.setMmio v).video = s.video := rfl
@[simp] theorem State.setMmio_blitter (v : List (Nat × Word)) : (s.setMmio v).blitter = s.blitter := rfl
@[simp] theorem State.setMmio_gpe (v : List (Nat × Word)) : (s.setMmio v).gpe = s.gpe := rfl
@[simp] theorem State.setMmio_opaqueState (v : List (Nat × Word)) : (s.setMmio v).opaqueState = s.opaqueState := rfl
@[simp] theorem State.setMmio_mmio (v : List (Nat × Word)) : (s.setMmio v).mmio = v := rfl
@[simp] theorem State.setMmio_namedRegs (v : List (Nat × Word)) : (s.setMmio v).namedRegs = s.namedRegs := rfl
@[simp] theorem State.setMmio_gtt (v : List (Nat × Word)) : (s.setMmio v).gtt = s.gtt := rfl
@[simp] theorem State.setMmio_phys (v : List (Nat × Word)) : (s.setMmio v).phys = s.phys := rfl
@[simp] theorem State.setMmio_threads (v : List (Nat × Word)) : (s.setMmio v).threads = s.threads := rfl
@[simp] theorem State.setMmio_urb (v : List (Nat × Word)) : (s.setMmio v).urb = s.urb := rfl
@[simp] theorem State.setMmio_hidden (v : List (Nat × Word)) : (s.setMmio v).hidden = s.hidden := rfl
@[simp] theorem State.setMmio_interrupts (v : List (Nat × Word)) : (s.setMmio v).interrupts = s.interrupts := rfl
@[simp] theorem State.setMmio_freeCounter (v : List (Nat × Word)) : (s.setMmio v).freeCounter = s.freeCounter := rfl
@[simp] theorem State.setMmio_turn (v : List (Nat × Word)) : (s.setMmio v).turn = s.turn := rfl
@[simp] theorem State.setMmio_schedule (v : List (Nat × Word)) : (s.setMmio v).schedule = s.schedule := rfl
@[simp] theorem State.setMmio_parser (v : List (Nat × Word)) (e : Engine) : (s.setMmio v).parser e = s.parser e := by cases e <;> rfl

/-! ## `setNamedRegs` -/

@[simp] theorem State.setNamedRegs_variant (v : List (Nat × Word)) : (s.setNamedRegs v).variant = s.variant := rfl
@[simp] theorem State.setNamedRegs_accepted (v : List (Nat × Word)) : (s.setNamedRegs v).accepted = s.accepted := rfl
@[simp] theorem State.setNamedRegs_render (v : List (Nat × Word)) : (s.setNamedRegs v).render = s.render := rfl
@[simp] theorem State.setNamedRegs_video (v : List (Nat × Word)) : (s.setNamedRegs v).video = s.video := rfl
@[simp] theorem State.setNamedRegs_blitter (v : List (Nat × Word)) : (s.setNamedRegs v).blitter = s.blitter := rfl
@[simp] theorem State.setNamedRegs_gpe (v : List (Nat × Word)) : (s.setNamedRegs v).gpe = s.gpe := rfl
@[simp] theorem State.setNamedRegs_opaqueState (v : List (Nat × Word)) : (s.setNamedRegs v).opaqueState = s.opaqueState := rfl
@[simp] theorem State.setNamedRegs_mmio (v : List (Nat × Word)) : (s.setNamedRegs v).mmio = s.mmio := rfl
@[simp] theorem State.setNamedRegs_namedRegs (v : List (Nat × Word)) : (s.setNamedRegs v).namedRegs = v := rfl
@[simp] theorem State.setNamedRegs_gtt (v : List (Nat × Word)) : (s.setNamedRegs v).gtt = s.gtt := rfl
@[simp] theorem State.setNamedRegs_phys (v : List (Nat × Word)) : (s.setNamedRegs v).phys = s.phys := rfl
@[simp] theorem State.setNamedRegs_threads (v : List (Nat × Word)) : (s.setNamedRegs v).threads = s.threads := rfl
@[simp] theorem State.setNamedRegs_urb (v : List (Nat × Word)) : (s.setNamedRegs v).urb = s.urb := rfl
@[simp] theorem State.setNamedRegs_hidden (v : List (Nat × Word)) : (s.setNamedRegs v).hidden = s.hidden := rfl
@[simp] theorem State.setNamedRegs_interrupts (v : List (Nat × Word)) : (s.setNamedRegs v).interrupts = s.interrupts := rfl
@[simp] theorem State.setNamedRegs_freeCounter (v : List (Nat × Word)) : (s.setNamedRegs v).freeCounter = s.freeCounter := rfl
@[simp] theorem State.setNamedRegs_turn (v : List (Nat × Word)) : (s.setNamedRegs v).turn = s.turn := rfl
@[simp] theorem State.setNamedRegs_schedule (v : List (Nat × Word)) : (s.setNamedRegs v).schedule = s.schedule := rfl
@[simp] theorem State.setNamedRegs_parser (v : List (Nat × Word)) (e : Engine) : (s.setNamedRegs v).parser e = s.parser e := by cases e <;> rfl

/-! ## `setGtt` -/

@[simp] theorem State.setGtt_variant (v : PageTable) : (s.setGtt v).variant = s.variant := rfl
@[simp] theorem State.setGtt_accepted (v : PageTable) : (s.setGtt v).accepted = s.accepted := rfl
@[simp] theorem State.setGtt_render (v : PageTable) : (s.setGtt v).render = s.render := rfl
@[simp] theorem State.setGtt_video (v : PageTable) : (s.setGtt v).video = s.video := rfl
@[simp] theorem State.setGtt_blitter (v : PageTable) : (s.setGtt v).blitter = s.blitter := rfl
@[simp] theorem State.setGtt_gpe (v : PageTable) : (s.setGtt v).gpe = s.gpe := rfl
@[simp] theorem State.setGtt_opaqueState (v : PageTable) : (s.setGtt v).opaqueState = s.opaqueState := rfl
@[simp] theorem State.setGtt_mmio (v : PageTable) : (s.setGtt v).mmio = s.mmio := rfl
@[simp] theorem State.setGtt_namedRegs (v : PageTable) : (s.setGtt v).namedRegs = s.namedRegs := rfl
@[simp] theorem State.setGtt_gtt (v : PageTable) : (s.setGtt v).gtt = v := rfl
@[simp] theorem State.setGtt_phys (v : PageTable) : (s.setGtt v).phys = s.phys := rfl
@[simp] theorem State.setGtt_threads (v : PageTable) : (s.setGtt v).threads = s.threads := rfl
@[simp] theorem State.setGtt_urb (v : PageTable) : (s.setGtt v).urb = s.urb := rfl
@[simp] theorem State.setGtt_hidden (v : PageTable) : (s.setGtt v).hidden = s.hidden := rfl
@[simp] theorem State.setGtt_interrupts (v : PageTable) : (s.setGtt v).interrupts = s.interrupts := rfl
@[simp] theorem State.setGtt_freeCounter (v : PageTable) : (s.setGtt v).freeCounter = s.freeCounter := rfl
@[simp] theorem State.setGtt_turn (v : PageTable) : (s.setGtt v).turn = s.turn := rfl
@[simp] theorem State.setGtt_schedule (v : PageTable) : (s.setGtt v).schedule = s.schedule := rfl
@[simp] theorem State.setGtt_parser (v : PageTable) (e : Engine) : (s.setGtt v).parser e = s.parser e := by cases e <;> rfl

/-! ## `setThreads` -/

@[simp] theorem State.setThreads_variant (v : List EuThread) : (s.setThreads v).variant = s.variant := rfl
@[simp] theorem State.setThreads_accepted (v : List EuThread) : (s.setThreads v).accepted = s.accepted := rfl
@[simp] theorem State.setThreads_render (v : List EuThread) : (s.setThreads v).render = s.render := rfl
@[simp] theorem State.setThreads_video (v : List EuThread) : (s.setThreads v).video = s.video := rfl
@[simp] theorem State.setThreads_blitter (v : List EuThread) : (s.setThreads v).blitter = s.blitter := rfl
@[simp] theorem State.setThreads_gpe (v : List EuThread) : (s.setThreads v).gpe = s.gpe := rfl
@[simp] theorem State.setThreads_opaqueState (v : List EuThread) : (s.setThreads v).opaqueState = s.opaqueState := rfl
@[simp] theorem State.setThreads_mmio (v : List EuThread) : (s.setThreads v).mmio = s.mmio := rfl
@[simp] theorem State.setThreads_namedRegs (v : List EuThread) : (s.setThreads v).namedRegs = s.namedRegs := rfl
@[simp] theorem State.setThreads_gtt (v : List EuThread) : (s.setThreads v).gtt = s.gtt := rfl
@[simp] theorem State.setThreads_phys (v : List EuThread) : (s.setThreads v).phys = s.phys := rfl
@[simp] theorem State.setThreads_threads (v : List EuThread) : (s.setThreads v).threads = v := rfl
@[simp] theorem State.setThreads_urb (v : List EuThread) : (s.setThreads v).urb = s.urb := rfl
@[simp] theorem State.setThreads_hidden (v : List EuThread) : (s.setThreads v).hidden = s.hidden := rfl
@[simp] theorem State.setThreads_interrupts (v : List EuThread) : (s.setThreads v).interrupts = s.interrupts := rfl
@[simp] theorem State.setThreads_freeCounter (v : List EuThread) : (s.setThreads v).freeCounter = s.freeCounter := rfl
@[simp] theorem State.setThreads_turn (v : List EuThread) : (s.setThreads v).turn = s.turn := rfl
@[simp] theorem State.setThreads_schedule (v : List EuThread) : (s.setThreads v).schedule = s.schedule := rfl
@[simp] theorem State.setThreads_parser (v : List EuThread) (e : Engine) : (s.setThreads v).parser e = s.parser e := by cases e <;> rfl

/-! ## `setUrb` -/

@[simp] theorem State.setUrb_variant (v : List (Nat × UrbEntry)) : (s.setUrb v).variant = s.variant := rfl
@[simp] theorem State.setUrb_accepted (v : List (Nat × UrbEntry)) : (s.setUrb v).accepted = s.accepted := rfl
@[simp] theorem State.setUrb_render (v : List (Nat × UrbEntry)) : (s.setUrb v).render = s.render := rfl
@[simp] theorem State.setUrb_video (v : List (Nat × UrbEntry)) : (s.setUrb v).video = s.video := rfl
@[simp] theorem State.setUrb_blitter (v : List (Nat × UrbEntry)) : (s.setUrb v).blitter = s.blitter := rfl
@[simp] theorem State.setUrb_gpe (v : List (Nat × UrbEntry)) : (s.setUrb v).gpe = s.gpe := rfl
@[simp] theorem State.setUrb_opaqueState (v : List (Nat × UrbEntry)) : (s.setUrb v).opaqueState = s.opaqueState := rfl
@[simp] theorem State.setUrb_mmio (v : List (Nat × UrbEntry)) : (s.setUrb v).mmio = s.mmio := rfl
@[simp] theorem State.setUrb_namedRegs (v : List (Nat × UrbEntry)) : (s.setUrb v).namedRegs = s.namedRegs := rfl
@[simp] theorem State.setUrb_gtt (v : List (Nat × UrbEntry)) : (s.setUrb v).gtt = s.gtt := rfl
@[simp] theorem State.setUrb_phys (v : List (Nat × UrbEntry)) : (s.setUrb v).phys = s.phys := rfl
@[simp] theorem State.setUrb_threads (v : List (Nat × UrbEntry)) : (s.setUrb v).threads = s.threads := rfl
@[simp] theorem State.setUrb_urb (v : List (Nat × UrbEntry)) : (s.setUrb v).urb = v := rfl
@[simp] theorem State.setUrb_hidden (v : List (Nat × UrbEntry)) : (s.setUrb v).hidden = s.hidden := rfl
@[simp] theorem State.setUrb_interrupts (v : List (Nat × UrbEntry)) : (s.setUrb v).interrupts = s.interrupts := rfl
@[simp] theorem State.setUrb_freeCounter (v : List (Nat × UrbEntry)) : (s.setUrb v).freeCounter = s.freeCounter := rfl
@[simp] theorem State.setUrb_turn (v : List (Nat × UrbEntry)) : (s.setUrb v).turn = s.turn := rfl
@[simp] theorem State.setUrb_schedule (v : List (Nat × UrbEntry)) : (s.setUrb v).schedule = s.schedule := rfl
@[simp] theorem State.setUrb_parser (v : List (Nat × UrbEntry)) (e : Engine) : (s.setUrb v).parser e = s.parser e := by cases e <;> rfl

/-! ## `setHidden` -/

@[simp] theorem State.setHidden_variant (v : Hidden) : (s.setHidden v).variant = s.variant := rfl
@[simp] theorem State.setHidden_accepted (v : Hidden) : (s.setHidden v).accepted = s.accepted := rfl
@[simp] theorem State.setHidden_render (v : Hidden) : (s.setHidden v).render = s.render := rfl
@[simp] theorem State.setHidden_video (v : Hidden) : (s.setHidden v).video = s.video := rfl
@[simp] theorem State.setHidden_blitter (v : Hidden) : (s.setHidden v).blitter = s.blitter := rfl
@[simp] theorem State.setHidden_gpe (v : Hidden) : (s.setHidden v).gpe = s.gpe := rfl
@[simp] theorem State.setHidden_opaqueState (v : Hidden) : (s.setHidden v).opaqueState = s.opaqueState := rfl
@[simp] theorem State.setHidden_mmio (v : Hidden) : (s.setHidden v).mmio = s.mmio := rfl
@[simp] theorem State.setHidden_namedRegs (v : Hidden) : (s.setHidden v).namedRegs = s.namedRegs := rfl
@[simp] theorem State.setHidden_gtt (v : Hidden) : (s.setHidden v).gtt = s.gtt := rfl
@[simp] theorem State.setHidden_phys (v : Hidden) : (s.setHidden v).phys = s.phys := rfl
@[simp] theorem State.setHidden_threads (v : Hidden) : (s.setHidden v).threads = s.threads := rfl
@[simp] theorem State.setHidden_urb (v : Hidden) : (s.setHidden v).urb = s.urb := rfl
@[simp] theorem State.setHidden_hidden (v : Hidden) : (s.setHidden v).hidden = v := rfl
@[simp] theorem State.setHidden_interrupts (v : Hidden) : (s.setHidden v).interrupts = s.interrupts := rfl
@[simp] theorem State.setHidden_freeCounter (v : Hidden) : (s.setHidden v).freeCounter = s.freeCounter := rfl
@[simp] theorem State.setHidden_turn (v : Hidden) : (s.setHidden v).turn = s.turn := rfl
@[simp] theorem State.setHidden_schedule (v : Hidden) : (s.setHidden v).schedule = s.schedule := rfl
@[simp] theorem State.setHidden_parser (v : Hidden) (e : Engine) : (s.setHidden v).parser e = s.parser e := by cases e <;> rfl

/-! ## `pushInterrupt` -/

@[simp] theorem State.pushInterrupt_variant (v : HostInterrupt) : (s.pushInterrupt v).variant = s.variant := rfl
@[simp] theorem State.pushInterrupt_accepted (v : HostInterrupt) : (s.pushInterrupt v).accepted = s.accepted := rfl
@[simp] theorem State.pushInterrupt_render (v : HostInterrupt) : (s.pushInterrupt v).render = s.render := rfl
@[simp] theorem State.pushInterrupt_video (v : HostInterrupt) : (s.pushInterrupt v).video = s.video := rfl
@[simp] theorem State.pushInterrupt_blitter (v : HostInterrupt) : (s.pushInterrupt v).blitter = s.blitter := rfl
@[simp] theorem State.pushInterrupt_gpe (v : HostInterrupt) : (s.pushInterrupt v).gpe = s.gpe := rfl
@[simp] theorem State.pushInterrupt_opaqueState (v : HostInterrupt) : (s.pushInterrupt v).opaqueState = s.opaqueState := rfl
@[simp] theorem State.pushInterrupt_mmio (v : HostInterrupt) : (s.pushInterrupt v).mmio = s.mmio := rfl
@[simp] theorem State.pushInterrupt_namedRegs (v : HostInterrupt) : (s.pushInterrupt v).namedRegs = s.namedRegs := rfl
@[simp] theorem State.pushInterrupt_gtt (v : HostInterrupt) : (s.pushInterrupt v).gtt = s.gtt := rfl
@[simp] theorem State.pushInterrupt_phys (v : HostInterrupt) : (s.pushInterrupt v).phys = s.phys := rfl
@[simp] theorem State.pushInterrupt_threads (v : HostInterrupt) : (s.pushInterrupt v).threads = s.threads := rfl
@[simp] theorem State.pushInterrupt_urb (v : HostInterrupt) : (s.pushInterrupt v).urb = s.urb := rfl
@[simp] theorem State.pushInterrupt_hidden (v : HostInterrupt) : (s.pushInterrupt v).hidden = s.hidden := rfl
@[simp] theorem State.pushInterrupt_interrupts (v : HostInterrupt) : (s.pushInterrupt v).interrupts = s.interrupts ++ [v] := rfl
@[simp] theorem State.pushInterrupt_freeCounter (v : HostInterrupt) : (s.pushInterrupt v).freeCounter = s.freeCounter := rfl
@[simp] theorem State.pushInterrupt_turn (v : HostInterrupt) : (s.pushInterrupt v).turn = s.turn := rfl
@[simp] theorem State.pushInterrupt_schedule (v : HostInterrupt) : (s.pushInterrupt v).schedule = s.schedule := rfl
@[simp] theorem State.pushInterrupt_parser (v : HostInterrupt) (e : Engine) : (s.pushInterrupt v).parser e = s.parser e := by cases e <;> rfl

/-! ## `bumpFree` -/

@[simp] theorem State.bumpFree_variant : (s.bumpFree).variant = s.variant := rfl
@[simp] theorem State.bumpFree_accepted : (s.bumpFree).accepted = s.accepted := rfl
@[simp] theorem State.bumpFree_render : (s.bumpFree).render = s.render := rfl
@[simp] theorem State.bumpFree_video : (s.bumpFree).video = s.video := rfl
@[simp] theorem State.bumpFree_blitter : (s.bumpFree).blitter = s.blitter := rfl
@[simp] theorem State.bumpFree_gpe : (s.bumpFree).gpe = s.gpe := rfl
@[simp] theorem State.bumpFree_opaqueState : (s.bumpFree).opaqueState = s.opaqueState := rfl
@[simp] theorem State.bumpFree_mmio : (s.bumpFree).mmio = s.mmio := rfl
@[simp] theorem State.bumpFree_namedRegs : (s.bumpFree).namedRegs = s.namedRegs := rfl
@[simp] theorem State.bumpFree_gtt : (s.bumpFree).gtt = s.gtt := rfl
@[simp] theorem State.bumpFree_phys : (s.bumpFree).phys = s.phys := rfl
@[simp] theorem State.bumpFree_threads : (s.bumpFree).threads = s.threads := rfl
@[simp] theorem State.bumpFree_urb : (s.bumpFree).urb = s.urb := rfl
@[simp] theorem State.bumpFree_hidden : (s.bumpFree).hidden = s.hidden := rfl
@[simp] theorem State.bumpFree_interrupts : (s.bumpFree).interrupts = s.interrupts := rfl
@[simp] theorem State.bumpFree_freeCounter : (s.bumpFree).freeCounter = s.freeCounter + 1 := rfl
@[simp] theorem State.bumpFree_turn : (s.bumpFree).turn = s.turn := rfl
@[simp] theorem State.bumpFree_schedule : (s.bumpFree).schedule = s.schedule := rfl
@[simp] theorem State.bumpFree_parser (e : Engine) : (s.bumpFree).parser e = s.parser e := by cases e <;> rfl

/-! ## `setTurn` -/

@[simp] theorem State.setTurn_variant (v : Engine) : (s.setTurn v).variant = s.variant := rfl
@[simp] theorem State.setTurn_accepted (v : Engine) : (s.setTurn v).accepted = s.accepted := rfl
@[simp] theorem State.setTurn_render (v : Engine) : (s.setTurn v).render = s.render := rfl
@[simp] theorem State.setTurn_video (v : Engine) : (s.setTurn v).video = s.video := rfl
@[simp] theorem State.setTurn_blitter (v : Engine) : (s.setTurn v).blitter = s.blitter := rfl
@[simp] theorem State.setTurn_gpe (v : Engine) : (s.setTurn v).gpe = s.gpe := rfl
@[simp] theorem State.setTurn_opaqueState (v : Engine) : (s.setTurn v).opaqueState = s.opaqueState := rfl
@[simp] theorem State.setTurn_mmio (v : Engine) : (s.setTurn v).mmio = s.mmio := rfl
@[simp] theorem State.setTurn_namedRegs (v : Engine) : (s.setTurn v).namedRegs = s.namedRegs := rfl
@[simp] theorem State.setTurn_gtt (v : Engine) : (s.setTurn v).gtt = s.gtt := rfl
@[simp] theorem State.setTurn_phys (v : Engine) : (s.setTurn v).phys = s.phys := rfl
@[simp] theorem State.setTurn_threads (v : Engine) : (s.setTurn v).threads = s.threads := rfl
@[simp] theorem State.setTurn_urb (v : Engine) : (s.setTurn v).urb = s.urb := rfl
@[simp] theorem State.setTurn_hidden (v : Engine) : (s.setTurn v).hidden = s.hidden := rfl
@[simp] theorem State.setTurn_interrupts (v : Engine) : (s.setTurn v).interrupts = s.interrupts := rfl
@[simp] theorem State.setTurn_freeCounter (v : Engine) : (s.setTurn v).freeCounter = s.freeCounter := rfl
@[simp] theorem State.setTurn_turn (v : Engine) : (s.setTurn v).turn = v := rfl
@[simp] theorem State.setTurn_schedule (v : Engine) : (s.setTurn v).schedule = s.schedule := rfl
@[simp] theorem State.setTurn_parser (v : Engine) (e : Engine) : (s.setTurn v).parser e = s.parser e := by cases e <;> rfl

/-! ## `setSchedule` -/

@[simp] theorem State.setSchedule_variant (v : List Event) : (s.setSchedule v).variant = s.variant := rfl
@[simp] theorem State.setSchedule_accepted (v : List Event) : (s.setSchedule v).accepted = s.accepted := rfl
@[simp] theorem State.setSchedule_render (v : List Event) : (s.setSchedule v).render = s.render := rfl
@[simp] theorem State.setSchedule_video (v : List Event) : (s.setSchedule v).video = s.video := rfl
@[simp] theorem State.setSchedule_blitter (v : List Event) : (s.setSchedule v).blitter = s.blitter := rfl
@[simp] theorem State.setSchedule_gpe (v : List Event) : (s.setSchedule v).gpe = s.gpe := rfl
@[simp] theorem State.setSchedule_opaqueState (v : List Event) : (s.setSchedule v).opaqueState = s.opaqueState := rfl
@[simp] theorem State.setSchedule_mmio (v : List Event) : (s.setSchedule v).mmio = s.mmio := rfl
@[simp] theorem State.setSchedule_namedRegs (v : List Event) : (s.setSchedule v).namedRegs = s.namedRegs := rfl
@[simp] theorem State.setSchedule_gtt (v : List Event) : (s.setSchedule v).gtt = s.gtt := rfl
@[simp] theorem State.setSchedule_phys (v : List Event) : (s.setSchedule v).phys = s.phys := rfl
@[simp] theorem State.setSchedule_threads (v : List Event) : (s.setSchedule v).threads = s.threads := rfl
@[simp] theorem State.setSchedule_urb (v : List Event) : (s.setSchedule v).urb = s.urb := rfl
@[simp] theorem State.setSchedule_hidden (v : List Event) : (s.setSchedule v).hidden = s.hidden := rfl
@[simp] theorem State.setSchedule_interrupts (v : List Event) : (s.setSchedule v).interrupts = s.interrupts := rfl
@[simp] theorem State.setSchedule_freeCounter (v : List Event) : (s.setSchedule v).freeCounter = s.freeCounter := rfl
@[simp] theorem State.setSchedule_turn (v : List Event) : (s.setSchedule v).turn = s.turn := rfl
@[simp] theorem State.setSchedule_schedule (v : List Event) : (s.setSchedule v).schedule = v := rfl
@[simp] theorem State.setSchedule_parser (v : List Event) (e : Engine) : (s.setSchedule v).parser e = s.parser e := by cases e <;> rfl

/-! ## `setParser` -/

@[simp] theorem State.setParser_variant (e : Engine) (p : Parser) : (s.setParser e p).variant = s.variant := by
  cases e <;> rfl
@[simp] theorem State.setParser_accepted (e : Engine) (p : Parser) : (s.setParser e p).accepted = s.accepted := by
  cases e <;> rfl
@[simp] theorem State.setParser_gpe (e : Engine) (p : Parser) : (s.setParser e p).gpe = s.gpe := by
  cases e <;> rfl
@[simp] theorem State.setParser_opaqueState (e : Engine) (p : Parser) : (s.setParser e p).opaqueState = s.opaqueState := by
  cases e <;> rfl
@[simp] theorem State.setParser_mmio (e : Engine) (p : Parser) : (s.setParser e p).mmio = s.mmio := by
  cases e <;> rfl
@[simp] theorem State.setParser_namedRegs (e : Engine) (p : Parser) : (s.setParser e p).namedRegs = s.namedRegs := by
  cases e <;> rfl
@[simp] theorem State.setParser_gtt (e : Engine) (p : Parser) : (s.setParser e p).gtt = s.gtt := by
  cases e <;> rfl
@[simp] theorem State.setParser_phys (e : Engine) (p : Parser) : (s.setParser e p).phys = s.phys := by
  cases e <;> rfl
@[simp] theorem State.setParser_threads (e : Engine) (p : Parser) : (s.setParser e p).threads = s.threads := by
  cases e <;> rfl
@[simp] theorem State.setParser_urb (e : Engine) (p : Parser) : (s.setParser e p).urb = s.urb := by
  cases e <;> rfl
@[simp] theorem State.setParser_hidden (e : Engine) (p : Parser) : (s.setParser e p).hidden = s.hidden := by
  cases e <;> rfl
@[simp] theorem State.setParser_interrupts (e : Engine) (p : Parser) : (s.setParser e p).interrupts = s.interrupts := by
  cases e <;> rfl
@[simp] theorem State.setParser_freeCounter (e : Engine) (p : Parser) : (s.setParser e p).freeCounter = s.freeCounter := by
  cases e <;> rfl
@[simp] theorem State.setParser_turn (e : Engine) (p : Parser) : (s.setParser e p).turn = s.turn := by
  cases e <;> rfl
@[simp] theorem State.setParser_schedule (e : Engine) (p : Parser) : (s.setParser e p).schedule = s.schedule := by
  cases e <;> rfl
@[simp] theorem State.setParser_parser_self (e : Engine) (p : Parser) : (s.setParser e p).parser e = p := by
  cases e <;> rfl

theorem State.setParser_parser_ne {e f : Engine} (p : Parser) (h : f ≠ e) : (s.setParser e p).parser f = s.parser f := by
  cases e <;> cases f <;> first | rfl | exact absurd rfl h

theorem State.setParser_parser (e f : Engine) (p : Parser) :
    (s.setParser e p).parser f = if f = e then p else s.parser f := by
  cases e <;> cases f <;> rfl

@[simp] theorem State.parser_render : s.parser .render = s.render := rfl
@[simp] theorem State.parser_video : s.parser .video = s.video := rfl
@[simp] theorem State.parser_blitter : s.parser .blitter = s.blitter := rfl

@[simp] theorem State.setParser_setParser (e : Engine) (p q : Parser) :
    (s.setParser e p).setParser e q = s.setParser e q := by
  cases e <;> rfl

@[simp] theorem State.setParser_same (e : Engine) : s.setParser e (s.parser e) = s := by
  cases e <;> rfl

/-! ## Parsers -/

@[simp] theorem Parser.advance_table (p : Parser) (n : Nat) : (p.advance n).table = p.table := by
  unfold Parser.advance; split <;> rfl
@[simp] theorem Parser.advance_ppgtt (p : Parser) (n : Nat) : (p.advance n).ppgtt = p.ppgtt := by
  unfold Parser.advance; split <;> rfl
@[simp] theorem Parser.advance_statusPage (p : Parser) (n : Nat) : (p.advance n).statusPage = p.statusPage := by
  unfold Parser.advance; split <;> rfl
@[simp] theorem Parser.advance_ringStart (p : Parser) (n : Nat) : (p.advance n).ring.start = p.ring.start := by
  unfold Parser.advance; split <;> rfl
@[simp] theorem Parser.advance_ringLength (p : Parser) (n : Nat) : (p.advance n).ring.length = p.ring.length := by
  unfold Parser.advance; split <;> rfl
@[simp] theorem Parser.advance_ringTail (p : Parser) (n : Nat) : (p.advance n).ring.tail = p.ring.tail := by
  unfold Parser.advance; split <;> rfl
@[simp] theorem Parser.advance_ringValid (p : Parser) (n : Nat) : (p.advance n).ring.valid = p.ring.valid := by
  unfold Parser.advance; split <;> rfl
@[simp] theorem Parser.advance_bbActive (p : Parser) (n : Nat) : (p.advance n).bb.active = p.bb.active := by
  unfold Parser.advance; split <;> simp_all

/-! ## `advance` -/

@[simp] theorem State.advance_variant (n : Nat) : (s.advance n).variant = s.variant := by simp [State.advance]
@[simp] theorem State.advance_accepted (n : Nat) : (s.advance n).accepted = s.accepted := by simp [State.advance]
@[simp] theorem State.advance_gpe (n : Nat) : (s.advance n).gpe = s.gpe := by simp [State.advance]
@[simp] theorem State.advance_opaqueState (n : Nat) : (s.advance n).opaqueState = s.opaqueState := by simp [State.advance]
@[simp] theorem State.advance_mmio (n : Nat) : (s.advance n).mmio = s.mmio := by simp [State.advance]
@[simp] theorem State.advance_namedRegs (n : Nat) : (s.advance n).namedRegs = s.namedRegs := by simp [State.advance]
@[simp] theorem State.advance_gtt (n : Nat) : (s.advance n).gtt = s.gtt := by simp [State.advance]
@[simp] theorem State.advance_phys (n : Nat) : (s.advance n).phys = s.phys := by simp [State.advance]
@[simp] theorem State.advance_threads (n : Nat) : (s.advance n).threads = s.threads := by simp [State.advance]
@[simp] theorem State.advance_urb (n : Nat) : (s.advance n).urb = s.urb := by simp [State.advance]
@[simp] theorem State.advance_hidden (n : Nat) : (s.advance n).hidden = s.hidden := by simp [State.advance]
@[simp] theorem State.advance_interrupts (n : Nat) : (s.advance n).interrupts = s.interrupts := by simp [State.advance]
@[simp] theorem State.advance_freeCounter (n : Nat) : (s.advance n).freeCounter = s.freeCounter := by simp [State.advance]
@[simp] theorem State.advance_turn (n : Nat) : (s.advance n).turn = s.turn := by simp [State.advance]
@[simp] theorem State.advance_schedule (n : Nat) : (s.advance n).schedule = s.schedule := by simp [State.advance]

theorem State.advance_parser_turn (n : Nat) : (s.advance n).parser s.turn = (s.parser s.turn).advance n := by
  simp [State.advance]

theorem State.advance_parser_ne (n : Nat) {e : Engine} (h : e ≠ s.turn) : (s.advance n).parser e = s.parser e := by
  simp [State.advance, State.setParser_parser_ne, h]

@[simp] theorem State.advance_parser_table (n : Nat) (e : Engine) :
    ((s.advance n).parser e).table = (s.parser e).table := by
  by_cases h : e = s.turn
  · subst h; simp [State.advance]
  · rw [s.advance_parser_ne n h]

@[simp] theorem State.advance_parser_ppgtt (n : Nat) (e : Engine) :
    ((s.advance n).parser e).ppgtt = (s.parser e).ppgtt := by
  by_cases h : e = s.turn
  · subst h; simp [State.advance]
  · rw [s.advance_parser_ne n h]

@[simp] theorem State.advance_parser_statusPage (n : Nat) (e : Engine) :
    ((s.advance n).parser e).statusPage = (s.parser e).statusPage := by
  by_cases h : e = s.turn
  · subst h; simp [State.advance]
  · rw [s.advance_parser_ne n h]

/-! ## Translation tables -/

@[simp] theorem State.setTableById_phys (i : TableId) (t : PageTable) : (s.setTableById i t).phys = s.phys := by
  cases i <;> simp [State.setTableById]
@[simp] theorem State.setTableById_self (i : TableId) (t : PageTable) : (s.setTableById i t).tableById i = t := by
  cases i <;> simp [State.setTableById, State.tableById]

/-- Translation depends on the tables alone. -/
theorem State.tableById_congr {s t : State} (hg : t.gtt = s.gtt)
    (hp : ∀ e, (t.parser e).ppgtt = (s.parser e).ppgtt) (i : TableId) : t.tableById i = s.tableById i := by
  cases i <;> simp [State.tableById, hg, hp]

/-- Which table an engine uses depends on its parser alone. -/
theorem State.tableIdOf_congr {s t : State} {e : Engine} (h : (t.parser e).table = (s.parser e).table) :
    t.tableIdOf e = s.tableIdOf e := by
  simp [State.tableIdOf, h]

@[simp] theorem State.advance_tableById (n : Nat) (i : TableId) : (s.advance n).tableById i = s.tableById i :=
  State.tableById_congr (by simp) (by simp) i

/-- What a Graphics Address reads depends on the tables and on physical memory. -/
theorem State.readGfx_congr {s t : State} (hg : t.gtt = s.gtt) (hp : ∀ e, (t.parser e).ppgtt = (s.parser e).ppgtt)
    (hm : t.phys = s.phys) (i : TableId) (a : GraphicsAddress) : t.readGfx i a = s.readGfx i a := by
  simp [State.readGfx, State.tableById_congr hg hp i, hm]

end Sys2Proof.Machine
end

