-- ==== Sys2Proof/Laws/Memory.lean ====
section
/-! SUPPORT. Memory and translation tables: what a write does to a read, and that every operation keeps the canonical
form. -/

namespace Sys2Proof.Machine

/-! ## Physical memory -/

@[simp] theorem writePhys_nil (m : List Host.Cell) (bs : List Byte) : writePhys m [] bs = m := by
  cases bs <;> rfl

@[simp] theorem writePhys_nil_right (m : List Host.Cell) (as : List Nat) : writePhys m as [] = m := by
  cases as <;> rfl

theorem writePhys_cons (m : List Host.Cell) (a : Nat) (as : List Nat) (b : Byte) (bs : List Byte) :
    writePhys m (a :: as) (b :: bs) = writePhys (Assoc.write 0 a b m) as bs := rfl

/-- Memory stays in canonical form under a write. -/
theorem memoryWf_writePhys (as : List Nat) (bs : List Byte) (m : List Host.Cell) (h : memoryWf m = true) :
    memoryWf (writePhys m as bs) = true := by
  induction as generalizing m bs with
  | nil => simpa using h
  | cons a as ih =>
    cases bs with
    | nil => simpa using h
    | cons b bs =>
      rw [writePhys_cons]
      exact ih bs _ (Assoc.canonical_write 0 a b m h)

/-- A write leaves every byte that is not written. -/
theorem readPhys_writePhys_of_notMem (as : List Nat) (bs : List Byte) (m : List Host.Cell) {p : Nat} (h : p ∉ as) :
    readPhys (writePhys m as bs) p = readPhys m p := by
  induction as generalizing m bs with
  | nil => simp
  | cons a as ih =>
    cases bs with
    | nil => simp
    | cons b bs =>
      simp only [List.mem_cons, not_or] at h
      rw [writePhys_cons, ih bs _ h.2]
      exact Assoc.read_write_ne 0 h.1 b m

/-- Bytes written to distinct addresses are read back. -/
theorem readPhys_writePhys_get (as : List Nat) (bs : List Byte) (m : List Host.Cell) (hn : as.Nodup)
    (k : Nat) (ha : k < as.length) (hb : k < bs.length) : readPhys (writePhys m as bs) as[k] = bs[k] := by
  induction as generalizing m bs k with
  | nil => simp at ha
  | cons a as ih =>
    cases bs with
    | nil => simp at hb
    | cons b bs =>
      rw [List.nodup_cons] at hn
      rw [writePhys_cons]
      cases k with
      | zero =>
        simp only [List.getElem_cons_zero]
        rw [readPhys_writePhys_of_notMem as bs _ hn.1]
        exact Assoc.read_write_self 0 a b m
      | succ k => simpa using ih bs _ hn.2 k (by simpa using ha) (by simpa using hb)

@[simp] theorem readPhys_nil (p : Nat) : readPhys [] p = 0 := rfl

@[simp] theorem memoryWf_nil : memoryWf [] = true := rfl

/-! ## Translation tables -/

@[simp] theorem PageTable.mapPage_size (t : PageTable) (a : GraphicsAddress) (e : PageEntry) :
    (t.mapPage a e).size = t.size := by
  unfold PageTable.mapPage; split <;> rfl

/-- A mapped page is found, and the entries of other pages are as they were. -/
theorem PageTable.entry?_mapPage (t : PageTable) (a b : GraphicsAddress) (e : PageEntry) :
    (t.mapPage a e).entry? b =
      if pteIndex b = pteIndex a ∧ pteIndex a < t.size.entries then some e else t.entry? b := by
  unfold PageTable.entry? PageTable.mapPage
  by_cases ha : pteIndex a < t.size.entries
  · by_cases hab : pteIndex b = pteIndex a
    · simp [ha, hab, Assoc.find?_insert_self]
    · simp [ha, hab, Assoc.find?_insert_ne hab]
  · simp [ha]

/-- Mapping a page keeps page numbers rising. -/
theorem PageTable.sorted_mapPage (t : PageTable) (a : GraphicsAddress) (e : PageEntry)
    (h : Assoc.sorted t.entries = true) : Assoc.sorted (t.mapPage a e).entries = true := by
  unfold PageTable.mapPage
  split
  · exact Assoc.sorted_insert _ _ _ h
  · exact h

/-- The plan of an access has one physical address for each byte. -/
theorem PageTable.length_plan (t : PageTable) (n : Nat) (a : GraphicsAddress) {ps : List Nat}
    (h : t.plan a n = .ok ps) : ps.length = n := by
  induction n generalizing a ps with
  | zero => cases h; rfl
  | succ n ih =>
    simp only [PageTable.plan] at h
    split at h
    · cases h
    · split at h
      · cases h
      · rename_i p _ ps' hps
        cases h
        simp [ih _ hps]

/-- A plan that succeeds translates every byte. -/
theorem PageTable.plan_get (t : PageTable) (n : Nat) (a : GraphicsAddress) {ps : List Nat} (h : t.plan a n = .ok ps)
    (k : Nat) (hk : k < ps.length) : t.translate (a + BitVec.ofNat 32 k) = some ps[k] := by
  induction n generalizing a ps k with
  | zero => cases h; exact absurd hk (by simp)
  | succ n ih =>
    simp only [PageTable.plan] at h
    split at h
    · cases h
    · rename_i p hp
      split at h
      · cases h
      · rename_i ps' hps
        cases h
        cases k with
        | zero => simpa using hp
        | succ k =>
          have := ih (a + 1) hps k (by simpa using hk)
          have he : a + BitVec.ofNat 32 (k + 1) = a + 1 + BitVec.ofNat 32 k := by
            apply BitVec.eq_of_toNat_eq
            simp [BitVec.toNat_add]
            omega
          rw [he]
          simpa using this

/-! ## Writes by any agent -/

/-- What a write can answer. -/
theorem State.commit_cases (s : State) (pas : List Nat) (bytes : List Byte) :
    (s.streamModified pas = true ∧ s.commit pas bytes = .refused .commandStreamModified) ∨
      (s.streamModified pas = false ∧ s.commit pas bytes = .next (s.setPhys (writePhys s.phys pas bytes))) := by
  unfold State.commit
  cases h : s.streamModified pas <;> simp

theorem State.commit_next {s t : State} {pas : List Nat} {bytes : List Byte} (h : s.commit pas bytes = .next t) :
    s.streamModified pas = false ∧ t = s.setPhys (writePhys s.phys pas bytes) := by
  rcases s.commit_cases pas bytes with ⟨_, h2⟩ | ⟨h1, h2⟩
  · rw [h2] at h; cases h
  · rw [h2] at h; cases h; exact ⟨h1, rfl⟩

/-- What a store to graphics memory does where it answers a next state. -/
theorem State.storeGfx_next {s t : State} {i : TableId} {a : GraphicsAddress} {bytes : List Byte}
    (h : s.storeGfx i a bytes = .next t) :
    ∃ pas, (s.tableById i).plan a bytes.length = .ok pas ∧ s.streamModified pas = false ∧
      t = s.setPhys (writePhys s.phys pas bytes) := by
  unfold State.storeGfx at h
  split at h
  · cases h
  · rename_i pas hp
    exact ⟨pas, hp, State.commit_next h⟩

/-- What storing the head pointer does where it answers a next state. -/
theorem State.reportHead_next {s t : State} {e : Engine} (h : s.reportHead e = .next t) :
    ∃ pas, (s.tableOf e).plan (s.statusAddress e 4) 4 = .ok pas ∧ s.streamModified pas = false ∧
      t = (s.setPhys (writePhys s.phys pas (bytesOfWord (Config.headRegisterImage s.freeCounter)))).bumpFree := by
  unfold State.reportHead at h
  split at h
  · rename_i u hu
    obtain ⟨pas, hp, hm, rfl⟩ := State.storeGfx_next hu
    cases h
    exact ⟨pas, hp, hm, rfl⟩
  · cases h
  · cases h

/-! ## Registers -/

/-- A register reads what was last written to it, and a write changes no other. -/
theorem State.readReg_writeReg (s : State) (o p : Nat) (v : Word) :
    (s.writeReg o v).readReg p = if p = o then v else s.readReg p := by
  simp [State.readReg, State.writeReg, Assoc.read_write]

theorem State.canonical_writeReg (s : State) (o : Nat) (v : Word) (h : Assoc.canonical 0 s.mmio = true) :
    Assoc.canonical 0 (s.writeReg o v).mmio = true :=
  Assoc.canonical_write 0 o v s.mmio h

/-- The register kept under a number. -/
def NamedReg.ofIndex (n : Nat) : Option NamedReg :=
  match n with
  | 0 => some .pgtblCtl
  | 1 => some .pgtblCtl2
  | 2 => some .gttadr
  | 3 => some .hwsPga
  | 4 => some .vcsContextControl
  | 5 => some .vcsRingHead
  | 6 => some .vcsRingTail
  | 7 => some .vcsBatchHead
  | 8 => some .vcsBatchState
  | 9 => some .vcsPpgttDirCacheValid
  | 10 => some .vcsPdBase
  | 11 => some .mfxStatePointer0
  | 12 => some .mfxStatePointer1
  | 13 => some .mfxStatePointer2
  | 14 => some .mfxStatePointer3
  | 15 => some .vcsCntr
  | 16 => some .vcsThrsh
  | 17 => some .vcsContextId
  | 18 => some .bcsRingHead
  | 19 => some .bcsRingTail
  | 20 => some .bcsPpgttDirCacheValid
  | 21 => some .bcsSwctrl
  | 22 => some .bcsPdBase
  | n =>
      if h : n - 23 < 107 then some (.gpmData ⟨n - 23, h⟩)
      else if h : n - 130 < 38 then some (.mbcUnit ⟨n - 130, h⟩)
      else if h : n - 168 < 10 then some (.gcpUnit ⟨n - 168, h⟩)
      else if h : n - 178 < 32 then some (.gdtUnit ⟨n - 178, h⟩)
      else if h : n - 210 < 26 then some (.gamUnit ⟨n - 210, h⟩)
      else none

/-- A register is the one kept under its number. -/
theorem NamedReg.ofIndex_index (r : NamedReg) : NamedReg.ofIndex r.index = some r := by
  cases r
  case gpmData k | mbcUnit k | gcpUnit k | gdtUnit k | gamUnit k => revert k; decide
  all_goals rfl

/-- Two registers kept by name have different numbers. -/
theorem NamedReg.index_injective : Function.Injective NamedReg.index := by
  intro a b h
  have := congrArg NamedReg.ofIndex h
  simpa [NamedReg.ofIndex_index] using this

theorem State.readNamed_writeNamed (s : State) (r q : NamedReg) (v : Word) :
    (s.writeNamed r v).readNamed q = if q = r then v else s.readNamed q := by
  simp only [State.readNamed, State.writeNamed, State.setNamedRegs_namedRegs, Assoc.read_write]
  by_cases h : q = r
  · simp [h]
  · rw [if_neg h, if_neg fun h' => h (NamedReg.index_injective h')]

theorem State.canonical_writeNamed (s : State) (r : NamedReg) (v : Word) (h : Assoc.canonical 0 s.namedRegs = true) :
    Assoc.canonical 0 (s.writeNamed r v).namedRegs = true :=
  Assoc.canonical_write 0 r.index v s.namedRegs h

end Sys2Proof.Machine
end

