-- ==== Sys2Proof/Laws/Ops.lean ====
section
/-! SUPPORT. What the shared operations can do, said once: the checks, completion, refusal, exceptions, events, and
every way a command or a step answers a next state. -/

namespace Sys2Proof.Machine

/-! ## Checks -/

@[simp] theorem orThen_none (b : Option Refusal) : orThen none b = b := rfl
@[simp] theorem orThen_some (r : Refusal) (b : Option Refusal) : orThen (some r) b = some r := rfl

theorem orThen_eq_none {a b : Option Refusal} : orThen a b = none ↔ a = none ∧ b = none := by
  cases a <;> simp

@[simp] theorem refuseIf_true (r : Refusal) : refuseIf true r = some r := rfl
@[simp] theorem refuseIf_false (r : Refusal) : refuseIf false r = none := rfl

theorem refuseIf_eq_none {c : Bool} {r : Refusal} : refuseIf c r = none ↔ c = false := by
  cases c <;> simp

theorem admitRender_eq_none {e : Engine} : admitRender e = none ↔ e = .render := by
  cases e <;> simp [admitRender]

@[simp] theorem admitMi_every (e : Engine) : admitMi .every e = none := rfl

theorem State.tailCheck_eq_none {s : State} {n : Nat} :
    s.tailCheck n = none ↔ (s.parser s.turn).available n = true := by
  simp [State.tailCheck, refuseIf_eq_none]

theorem State.headerChecks_eq_none {s : State} {h : LenHeader} {legal : BitVec 8} {n : Nat} :
    s.headerChecks h legal n = none ↔
      s.turn = .render ∧ h.dwordLength = legal ∧ (s.parser s.turn).available n = true := by
  simp [State.headerChecks, orThen_eq_none, admitRender_eq_none, refuseIf_eq_none, State.tailCheck_eq_none]

theorem State.plainMiChecks_eq_none {s : State} {m : String} {data : BitVec 23} :
    s.plainMiChecks m data = none ↔ data = 0 ∧ (s.parser s.turn).available 1 = true := by
  simp [State.plainMiChecks, orThen_eq_none, refuseIf_eq_none, State.tailCheck_eq_none, lengthSingle]

theorem State.optionalMiChecks_eq_none {s : State} {b : Bool} {m : String} {data : BitVec 23} :
    s.optionalMiChecks b m data = none ↔ b = true ∧ data = 0 ∧ (s.parser s.turn).available 1 = true := by
  simp [State.optionalMiChecks, orThen_eq_none, refuseIf_eq_none, State.plainMiChecks_eq_none]

theorem State.acceptsReportHead_iff {s : State} :
    s.acceptsReportHead = true ↔ s.accepted.reportHead = true ∧ s.turn ≠ .blitter := by
  simp [State.acceptsReportHead]

/-- A command completes exactly where its checks pass. -/
theorem complete_eq_next {c : Option Refusal} {n : Nat} {w t : State} :
    complete c n w = .next t ↔ c = none ∧ w.advance n = t := by
  cases c <;> simp [complete]

theorem complete_none (n : Nat) (w : State) : complete none n w = .next (w.advance n) := rfl
theorem complete_some (r : Refusal) (n : Nat) (w : State) : complete (some r) n w = .refused r := rfl

/-- A command without a body never answers a next state. -/
theorem refuseBody_ne_next (a : Option Refusal) (m : String) (n : Nat) (t : State) : refuseBody a m n ≠ .next t := by
  cases a <;> simp [refuseBody]

theorem refuseBody_none (m : String) (n : Nat) : refuseBody none m n = .refused (.bodyNotInSource m n) := rfl
theorem refuseBody_some (r : Refusal) (m : String) (n : Nat) : refuseBody (some r) m n = .refused r := rfl

/-! ## The commands that complete -/

theorem execPipelineSelect_next {r : BitVec 14} {p : BitVec 2} {s t : State} (h : execPipelineSelect r p s = .next t) :
    s.turn = .render ∧ (s.parser s.turn).available 1 = true ∧ r = 0 ∧ p ≠ 3 ∧
      t = (s.selectPipeline p).advance 1 := by
  simp only [execPipelineSelect, complete_eq_next, orThen_eq_none, admitRender_eq_none, State.tailCheck_eq_none,
    refuseIf_eq_none, lengthSingle] at h
  obtain ⟨⟨h1, h2, h3, h4⟩, h5⟩ := h
  exact ⟨h1, h2, by simpa using h3, by simpa using h4, h5.symm⟩

theorem execStateSip_next {h : LenHeader} {p : BitVec 28} {r : BitVec 4} {s t : State}
    (hx : execStateSip h p r s = .next t) :
    s.turn = .render ∧ (s.parser s.turn).available 2 = true ∧
      t = (s.setGpe { s.gpe with sip := .holds p }).advance 2 := by
  simp only [execStateSip, complete_eq_next, orThen_eq_none, State.headerChecks_eq_none] at hx
  exact ⟨hx.1.1.1, hx.1.1.2.2, hx.2.symm⟩

theorem execSwtessBaseAddress_next {h : LenHeader} {b : BitVec 20} {m : BitVec 4} {r : BitVec 8} {s t : State}
    (hx : execSwtessBaseAddress h b m r s = .next t) :
    s.turn = .render ∧ (s.parser s.turn).available 2 = true ∧ mocsReserved m = false ∧
      t = (s.setGpe { s.gpe with swTessBase := .holds b, swTessMocs := .holds m }).advance 2 := by
  simp only [execSwtessBaseAddress, complete_eq_next, orThen_eq_none, State.headerChecks_eq_none, refuseIf_eq_none,
    Bool.or_eq_false_iff] at hx
  exact ⟨hx.1.1.1, hx.1.1.2.2, hx.1.2.2, hx.2.symm⟩

theorem execStatePrefetch_next {h : LenHeader} {p : BitVec 26} {r c : BitVec 3} {s t : State}
    (hx : execStatePrefetch h p r c s = .next t) :
    s.turn = .render ∧ (s.parser s.turn).available 2 = true ∧ t = s.advance 2 := by
  simp only [execStatePrefetch, complete_eq_next, orThen_eq_none, State.headerChecks_eq_none] at hx
  exact ⟨hx.1.1.1, hx.1.1.2.2, hx.2.symm⟩

theorem execStateBaseAddress_next {h : LenHeader} {g : SbaGeneral} {sf dy ind ins : SbaBase} {gb db ib nb : SbaBound}
    {s t : State} (hx : execStateBaseAddress h g sf dy ind ins gb db ib nb s = .next t) :
    s.turn = .render ∧ (s.parser s.turn).available 10 = true ∧
      (generalMbz g = false ∧ baseMbz sf = false ∧ baseMbz dy = false ∧ baseMbz ind = false ∧ baseMbz ins = false) ∧
      (s.gpe.updateBases g sf dy ind ins gb db ib nb).boundsViolated = false ∧
      t = (s.rebase (s.gpe.updateBases g sf dy ind ins gb db ib nb)).advance 10 := by
  simp only [execStateBaseAddress, complete_eq_next, orThen_eq_none, State.headerChecks_eq_none, refuseIf_eq_none,
    Bool.or_eq_false_iff] at hx
  obtain ⟨⟨⟨h1, _, h2⟩, ⟨⟨⟨⟨⟨⟨⟨⟨⟨_, h3⟩, h4⟩, h5⟩, h6⟩, h7⟩, _⟩, _⟩, _⟩, _⟩, h8⟩, h9⟩ := hx
  exact ⟨h1, h2, ⟨h3, h4, h5, h6, h7⟩, h8, h9.symm⟩

theorem execMiNoop_next {d : BitVec 23} {s t : State} (h : execMiNoop d s = .next t) :
    d = 0 ∧ (s.parser s.turn).available 1 = true ∧ t = s.advance 1 := by
  simp only [execMiNoop, complete_eq_next, State.plainMiChecks_eq_none, lengthSingle] at h
  exact ⟨h.1.1, h.1.2, h.2.symm⟩

theorem execMiUserInterrupt_next {d : BitVec 23} {s t : State} (h : execMiUserInterrupt d s = .next t) :
    s.accepted.userInterrupt = true ∧ d = 0 ∧ (s.parser s.turn).available 1 = true ∧
      t = (s.pushInterrupt ⟨s.turn, .user⟩).advance 1 := by
  simp only [execMiUserInterrupt, complete_eq_next, State.optionalMiChecks_eq_none, lengthSingle] at h
  exact ⟨h.1.1, h.1.2.1, h.1.2.2, h.2.symm⟩

theorem execMiReportHead_next {d : BitVec 23} {s t : State} (h : execMiReportHead d s = .next t) :
    s.accepted.reportHead = true ∧ s.turn ≠ .blitter ∧ d = 0 ∧ (s.parser s.turn).available 1 = true ∧
      ∃ u, s.reportHead s.turn = .next u ∧ t = u.advance 1 := by
  unfold execMiReportHead at h
  split at h
  · cases h
  · rename_i hc
    rw [State.optionalMiChecks_eq_none, State.acceptsReportHead_iff] at hc
    split at h
    · rename_i u hu
      cases h
      exact ⟨hc.1.1, hc.1.2, hc.2.1, hc.2.2, u, hu, rfl⟩
    · cases h
    · cases h

/-- Every way a command answers a next state: the eight commands that complete. -/
theorem exec_next {i : Instr} {s t : State} (h : exec i s = .next t) :
    (∃ r p, i = .pipelineSelect r p ∧ execPipelineSelect r p s = .next t) ∨
    (∃ l g sf dy ind ins gb db ib nb, i = .stateBaseAddress l g sf dy ind ins gb db ib nb ∧
      execStateBaseAddress l g sf dy ind ins gb db ib nb s = .next t) ∨
    (∃ l p r, i = .stateSip l p r ∧ execStateSip l p r s = .next t) ∨
    (∃ l b m r, i = .swtessBaseAddress l b m r ∧ execSwtessBaseAddress l b m r s = .next t) ∨
    (∃ l p r c, i = .statePrefetch l p r c ∧ execStatePrefetch l p r c s = .next t) ∨
    (∃ d, i = .miNoop d ∧ execMiNoop d s = .next t) ∨
    (∃ d, i = .miUserInterrupt d ∧ execMiUserInterrupt d s = .next t) ∨
    (∃ d, i = .miReportHead d ∧ execMiReportHead d s = .next t) := by
  cases i
  case pipelineSelect r p => exact .inl ⟨r, p, rfl, h⟩
  case stateBaseAddress l g sf dy ind ins gb db ib nb =>
    exact .inr (.inl ⟨l, g, sf, dy, ind, ins, gb, db, ib, nb, rfl, h⟩)
  case stateSip l p r => exact .inr (.inr (.inl ⟨l, p, r, rfl, h⟩))
  case swtessBaseAddress l b m r => exact .inr (.inr (.inr (.inl ⟨l, b, m, r, rfl, h⟩)))
  case statePrefetch l p r c => exact .inr (.inr (.inr (.inr (.inl ⟨l, p, r, c, rfl, h⟩))))
  case miNoop d => exact .inr (.inr (.inr (.inr (.inr (.inl ⟨d, rfl, h⟩)))))
  case miUserInterrupt d => exact .inr (.inr (.inr (.inr (.inr (.inr (.inl ⟨d, rfl, h⟩))))))
  case miReportHead d => exact .inr (.inr (.inr (.inr (.inr (.inr (.inr ⟨d, rfl, h⟩))))))
  all_goals first | exact absurd h (refuseBody_ne_next _ _ _ _) | exact nomatch h

/-! ## What PIPELINE_SELECT and STATE_BASE_ADDRESS leave -/

@[simp] theorem State.forget_gpe (s : State) (l : List OpaqueItem) : (s.forget l).gpe = s.gpe := rfl
@[simp] theorem State.forget_parser (s : State) (l : List OpaqueItem) (e : Engine) :
    (s.forget l).parser e = s.parser e := by cases e <;> rfl
@[simp] theorem State.forget_render (s : State) (l : List OpaqueItem) : (s.forget l).render = s.render := rfl
@[simp] theorem State.forget_video (s : State) (l : List OpaqueItem) : (s.forget l).video = s.video := rfl
@[simp] theorem State.forget_blitter (s : State) (l : List OpaqueItem) : (s.forget l).blitter = s.blitter := rfl
@[simp] theorem State.forget_mmio (s : State) (l : List OpaqueItem) : (s.forget l).mmio = s.mmio := rfl
@[simp] theorem State.forget_namedRegs (s : State) (l : List OpaqueItem) : (s.forget l).namedRegs = s.namedRegs := rfl
@[simp] theorem State.forget_gtt (s : State) (l : List OpaqueItem) : (s.forget l).gtt = s.gtt := rfl
@[simp] theorem State.forget_phys (s : State) (l : List OpaqueItem) : (s.forget l).phys = s.phys := rfl
@[simp] theorem State.forget_threads (s : State) (l : List OpaqueItem) : (s.forget l).threads = s.threads := rfl
@[simp] theorem State.forget_variant (s : State) (l : List OpaqueItem) : (s.forget l).variant = s.variant := rfl
@[simp] theorem State.forget_accepted (s : State) (l : List OpaqueItem) : (s.forget l).accepted = s.accepted := rfl
@[simp] theorem State.forget_urb (s : State) (l : List OpaqueItem) : (s.forget l).urb = s.urb := rfl
@[simp] theorem State.forget_hidden (s : State) (l : List OpaqueItem) : (s.forget l).hidden = s.hidden := rfl
@[simp] theorem State.forget_interrupts (s : State) (l : List OpaqueItem) : (s.forget l).interrupts = s.interrupts := rfl
@[simp] theorem State.forget_freeCounter (s : State) (l : List OpaqueItem) :
    (s.forget l).freeCounter = s.freeCounter := rfl
@[simp] theorem State.forget_turn (s : State) (l : List OpaqueItem) : (s.forget l).turn = s.turn := rfl
@[simp] theorem State.forget_schedule (s : State) (l : List OpaqueItem) : (s.forget l).schedule = s.schedule := rfl

/-- `rebase` writes the variables and may forget opaque state: nothing else. -/
theorem State.rebase_eq (s : State) (g : Gpe) : ∃ o, s.rebase g = (s.setGpe g).setOpaque o := by
  unfold State.rebase
  split
  · exact ⟨_, rfl⟩
  · exact ⟨s.opaqueState, rfl⟩

@[simp] theorem State.rebase_gpe (s : State) (g : Gpe) : (s.rebase g).gpe = g := by
  obtain ⟨o, h⟩ := s.rebase_eq g; rw [h]; rfl
@[simp] theorem State.rebase_parser (s : State) (g : Gpe) (e : Engine) : (s.rebase g).parser e = s.parser e := by
  obtain ⟨o, h⟩ := s.rebase_eq g; rw [h]; cases e <;> rfl
@[simp] theorem State.rebase_mmio (s : State) (g : Gpe) : (s.rebase g).mmio = s.mmio := by
  obtain ⟨o, h⟩ := s.rebase_eq g; rw [h]; rfl
@[simp] theorem State.rebase_namedRegs (s : State) (g : Gpe) : (s.rebase g).namedRegs = s.namedRegs := by
  obtain ⟨o, h⟩ := s.rebase_eq g; rw [h]; rfl
@[simp] theorem State.rebase_gtt (s : State) (g : Gpe) : (s.rebase g).gtt = s.gtt := by
  obtain ⟨o, h⟩ := s.rebase_eq g; rw [h]; rfl
@[simp] theorem State.rebase_phys (s : State) (g : Gpe) : (s.rebase g).phys = s.phys := by
  obtain ⟨o, h⟩ := s.rebase_eq g; rw [h]; rfl
@[simp] theorem State.rebase_threads (s : State) (g : Gpe) : (s.rebase g).threads = s.threads := by
  obtain ⟨o, h⟩ := s.rebase_eq g; rw [h]; rfl
@[simp] theorem State.rebase_variant (s : State) (g : Gpe) : (s.rebase g).variant = s.variant := by
  obtain ⟨o, h⟩ := s.rebase_eq g; rw [h]; rfl
@[simp] theorem State.rebase_accepted (s : State) (g : Gpe) : (s.rebase g).accepted = s.accepted := by
  obtain ⟨o, h⟩ := s.rebase_eq g; rw [h]; rfl
@[simp] theorem State.rebase_urb (s : State) (g : Gpe) : (s.rebase g).urb = s.urb := by
  obtain ⟨o, h⟩ := s.rebase_eq g; rw [h]; rfl
@[simp] theorem State.rebase_hidden (s : State) (g : Gpe) : (s.rebase g).hidden = s.hidden := by
  obtain ⟨o, h⟩ := s.rebase_eq g; rw [h]; rfl
@[simp] theorem State.rebase_interrupts (s : State) (g : Gpe) : (s.rebase g).interrupts = s.interrupts := by
  obtain ⟨o, h⟩ := s.rebase_eq g; rw [h]; rfl
@[simp] theorem State.rebase_freeCounter (s : State) (g : Gpe) : (s.rebase g).freeCounter = s.freeCounter := by
  obtain ⟨o, h⟩ := s.rebase_eq g; rw [h]; rfl
@[simp] theorem State.rebase_turn (s : State) (g : Gpe) : (s.rebase g).turn = s.turn := by
  obtain ⟨o, h⟩ := s.rebase_eq g; rw [h]; rfl
@[simp] theorem State.rebase_schedule (s : State) (g : Gpe) : (s.rebase g).schedule = s.schedule := by
  obtain ⟨o, h⟩ := s.rebase_eq g; rw [h]; rfl

/-! ## Exceptions and threads -/

/-- Where taking an exception answers a next state: no thread in the slot and nothing changes, or the thread there
enters the System Routine and nothing else changes. -/
theorem State.takeException_next {s t : State} {k : Nat} (h : s.takeException k = .next t) :
    (s.threads[k]? = none ∧ t = s) ∨
      ∃ u a, s.threads[k]? = some u ∧ s.gpe.systemRoutine = .ok a ∧
        t = s.setThreads (s.threads.set k (u.enterException s.gpe.sipOffset)) := by
  unfold State.takeException at h
  split at h
  · rename_i hn; cases h; exact .inl ⟨hn, rfl⟩
  · rename_i u hu
    split at h
    · cases h
    · rename_i a ha
      cases h
      exact .inr ⟨u, a, hu, ha, rfl⟩

/-- A thread is appended where its slot is free and the hardware has one; else nothing changes. -/
theorem State.spawn_cases (s : State) (u : EuThread) :
    ((s.slotTaken u = true ∨ s.hasRoom u = false) ∧ s.spawn u = s) ∨
      (s.slotTaken u = false ∧ s.hasRoom u = true ∧ s.spawn u = s.setThreads (s.threads ++ [u])) := by
  unfold State.spawn
  cases s.slotTaken u <;> cases s.hasRoom u <;> simp

/-- A thread that ends leaves the list and no other does: what is left is a sublist, in which nothing is changed. -/
theorem State.endThread_sublist (s : State) (k : Nat) : (s.endThread k).threads.Sublist s.threads :=
  List.eraseIdx_sublist _ _

/-- A thread is replaced where there is one; else nothing changes. -/
theorem State.modifyThread_cases (s : State) (k : Nat) (f : EuThread → EuThread) :
    (s.threads[k]? = none ∧ s.modifyThread k f = s) ∨
      ∃ u, s.threads[k]? = some u ∧ s.modifyThread k f = s.setThreads (s.threads.set k (f u)) := by
  unfold State.modifyThread
  split
  · exact .inl ⟨‹_›, rfl⟩
  · exact .inr ⟨_, ‹_›, rfl⟩

/-! ## Data port writes -/

/-- What a stateless DataPort write does where it answers a next state. -/
theorem State.dataPortStore_next {s t : State} {o : Nat} {bytes : List Byte} (h : s.dataPortStore o bytes = .next t) :
    ∃ ps, s.dataPortPlan o bytes = .next ps ∧ s.streamModified (ps.map Prod.fst) = false ∧
      t = s.setPhys (writePhys s.phys (ps.map Prod.fst) (ps.map Prod.snd)) := by
  unfold State.dataPortStore at h
  split at h
  · cases h
  · cases h
  · rename_i ps hp
    obtain ⟨h1, h2⟩ := State.commit_next h
    exact ⟨ps, hp, h1, h2⟩

/-- A scratch write is a stateless DataPort write, or no thread is in the slot and nothing changes. -/
theorem State.scratchWrite_next {s t : State} {k o : Nat} {bytes : List Byte} (h : s.scratchWrite k o bytes = .next t) :
    (s.threads[k]? = none ∧ t = s) ∨
      ∃ u, s.threads[k]? = some u ∧ s.dataPortStore (u.scratchOffset + o) bytes = .next t := by
  unfold State.scratchWrite at h
  split at h
  · rename_i hn; cases h; exact .inl ⟨hn, rfl⟩
  · rename_i u hu; exact .inr ⟨u, hu, h⟩

/-! ## The command DMA of the VCS -/

@[simp] theorem State.dmaProgram_render (s : State) (h t : Nat) : s.dmaProgram .render h t = s := rfl
@[simp] theorem State.dmaProgram_blitter (s : State) (h t : Nat) : s.dmaProgram .blitter h t = s := rfl
@[simp] theorem State.dmaTail_render (s : State) (t : Nat) : s.dmaTail .render t = s := rfl
@[simp] theorem State.dmaTail_blitter (s : State) (t : Nat) : s.dmaTail .blitter t = s := rfl

/-- The DMA's copies change with a ring, and nothing else does; the FIFO does not grow. -/
theorem State.dmaProgram_eq (s : State) (e : Engine) (h t : Nat) :
    ∃ g, s.dmaProgram e h t = s.setHidden g ∧ g.vcsFifo.length ≤ s.hidden.vcsFifo.length := by
  cases e
  · exact ⟨s.hidden, rfl, le_refl _⟩
  · exact ⟨_, rfl, Nat.zero_le _⟩
  · exact ⟨s.hidden, rfl, le_refl _⟩

theorem State.dmaTail_eq (s : State) (e : Engine) (t : Nat) :
    ∃ g, s.dmaTail e t = s.setHidden g ∧ g.vcsFifo.length ≤ s.hidden.vcsFifo.length := by
  cases e
  · exact ⟨s.hidden, rfl, le_refl _⟩
  · exact ⟨_, rfl, le_refl _⟩
  · exact ⟨s.hidden, rfl, le_refl _⟩

/-- What a request of the DMA does where it answers a next state: done lines leave the FIFO, and one line may be added
where there is space. -/
theorem State.vcsDmaRequest_next {s t : State} (h : s.vcsDmaRequest = .next t) :
    (s.dmaRequests = false ∧ t = s.setHidden { s.hidden with vcsFifo := s.vcsWaiting }) ∨
      (s.dmaRequests = true ∧ ∃ x, t = s.setHidden { s.hidden with
        vcsFifo := s.vcsWaiting ++ [x]
        vcsDmaHead := s.video.ring.dmaNext s.hidden.vcsDmaHead s.hidden.vcsDmaTail }) := by
  unfold State.vcsDmaRequest at h
  split at h
  · rename_i hr
    split at h
    · cases h
    · cases h; exact .inr ⟨hr, _, rfl⟩
  · rename_i hr; cases h; exact .inl ⟨by simpa using hr, rfl⟩

/-- The FIFO keeps its depth. -/
theorem State.vcsDmaRequest_fifo {s t : State} (h : s.vcsDmaRequest = .next t)
    (hs : s.hidden.vcsFifo.length ≤ Config.dmaFifoLines) : t.hidden.vcsFifo.length ≤ Config.dmaFifoLines := by
  have hw : s.vcsWaiting.length ≤ s.hidden.vcsFifo.length := List.length_filter_le _ _
  rcases State.vcsDmaRequest_next h with ⟨_, rfl⟩ | ⟨hr, x, rfl⟩
  · exact hw.trans hs
  · simp only [State.dmaRequests, Bool.and_eq_true, decide_eq_true_eq] at hr
    simpa using hr.1.2

/-! ## Caches -/

/-- A cache event leaves the command FIFO and the DMA's pointers. -/
theorem Hidden.apply_fifo (h : Hidden) (op : CacheOp) :
    (h.apply op).vcsFifo = h.vcsFifo ∧ (h.apply op).vcsDmaHead = h.vcsDmaHead ∧
      (h.apply op).vcsDmaTail = h.vcsDmaTail := by
  cases op with
  | fill c _ => cases c <;> exact ⟨rfl, rfl, rfl⟩
  | empty c => cases c <;> exact ⟨rfl, rfl, rfl⟩
  | fillLlc _ => exact ⟨rfl, rfl, rfl⟩
  | fillVertex _ => exact ⟨rfl, rfl, rfl⟩
  | flushLlcGfdt => exact ⟨rfl, rfl, rfl⟩

/-- A cache event replaces caches and leaves the rest: the command FIFO, the DMA's pointers, the scratch pages. -/
theorem Hidden.apply_frame (h : Hidden) (op : CacheOp) :
    h.apply op = { h with
      isc := (h.apply op).isc, texture := (h.apply op).texture, render := (h.apply op).render
      constant := (h.apply op).constant, vertex := (h.apply op).vertex, l3 := (h.apply op).l3
      llc := (h.apply op).llc, mlc := (h.apply op).mlc, ppgttDirectory := (h.apply op).ppgttDirectory } := by
  cases op with
  | fill c _ => cases c <;> rfl
  | empty c => cases c <;> rfl
  | fillLlc _ => rfl
  | fillVertex _ => rfl
  | flushLlcGfdt => rfl

/-! ## Events that write memory or choose a table -/

/-- What setting the size of a table does where it answers a next state. -/
theorem State.hostSetTableSize_next {s t : State} {i : TableId} {z : TableSize}
    (h : s.hostSetTableSize i z = .next t) :
    ¬ (i = .global ∧ z = .kb64) ∧ t = s.setTableById i { s.tableById i with size := z } := by
  unfold State.hostSetTableSize at h
  split at h
  · cases h
  · rename_i hn; cases h; exact ⟨hn, rfl⟩

/-- What the device's write of a reserved DWord does where it answers a next state. -/
theorem State.deviceWriteReserved_next {s t : State} {e : Engine} {k : Nat}
    (h : s.deviceWriteReserved e k = .next t) :
    t = s ∨ ∃ u, s.storeGfx (s.tableIdOf e) (s.statusAddress e k)
      (bytesOfWord (Config.reservedStatusDword s.freeCounter)) = .next u ∧ t = u.bumpFree := by
  unfold State.deviceWriteReserved at h
  split at h
  · split at h
    · rename_i u hu; cases h; exact .inr ⟨u, hu, rfl⟩
    · cases h
    · cases h
  · cases h; exact .inl rfl

/-! ## Surface accesses -/

/-- What an access that is not refused touches: the extended surface, and the element asked for where it lies in it. -/
theorem surface_touched_some {a : Surface.Access} {x : List Surface.Span} (h : a.touched = some x) :
    a.rawRefusal = none ∧ ∃ l, a.shape.spans a.reader = some l ∧
      x = if a.shape.inside a.coordinate then l ++ [a.shape.elementSpan a.coordinate] else l := by
  unfold Surface.Access.touched at h
  split at h
  · cases h
  · obtain ⟨l, hl, rfl⟩ := Option.map_eq_some_iff.1 h
    exact ⟨‹_›, l, hl, rfl⟩

/-- A surface access changes nothing. -/
theorem State.performSurfaceAccess_next {s t : State} {a : Surface.Access}
    (h : s.performSurfaceAccess a = .next t) : t = s ∧ ∃ x, s.surfaceAccess a = .next x := by
  unfold State.performSurfaceAccess at h
  split at h
  · rename_i x hx; cases h; exact ⟨rfl, x, hx⟩
  · cases h
  · cases h

/-! ## Steps -/

/-- Every way a step of a parser answers a next state: it is idle, or a fetched command completes. -/
theorem stepParser_next {s t : State} (h : stepParser s = .next t) :
    (s.fetch = .idle ∧ t = s) ∨ ∃ i, s.fetch = .command i ∧ exec i s = .next t := by
  unfold stepParser at h
  split at h
  · rename_i hf; cases h; exact .inl ⟨hf, rfl⟩
  · cases h
  · cases h
  · rename_i i hf; exact .inr ⟨i, hf, h⟩

theorem step_nil {s : State} (h : s.schedule = []) : step s = stepParser s := by
  simp [step, State.nextAction, h]

theorem step_runParser {s : State} {e : Engine} {l : List Event} (h : s.schedule = .runParser e :: l) :
    step s = stepParser ((s.setSchedule l).setTurn e) := by
  simp [step, State.nextAction, h]

theorem step_event {s : State} {ev : Event} {l : List Event} (h : s.schedule = ev :: l)
    (hne : ∀ e, ev ≠ .runParser e) : step s = (s.setSchedule l).perform ev := by
  cases ev <;> simp_all [step, State.nextAction]

/-- Every way a step answers a next state. -/
theorem step_next {s t : State} (h : step s = .next t) :
    (∃ e l, stepParser ((s.setSchedule l).setTurn e) = .next t) ∨
      ∃ ev l, (s.setSchedule l).perform ev = .next t := by
  match hs : s.schedule with
  | [] =>
    rw [step_nil hs] at h
    exact .inl ⟨s.turn, [], by
      have : (s.setSchedule []).setTurn s.turn = s := by rw [← hs]; rfl
      rw [this]; exact h⟩
  | .runParser e :: l => rw [step_runParser hs] at h; exact .inl ⟨e, l, h⟩
  | .hostWriteMem a b c :: l => rw [step_event hs (by simp)] at h; exact .inr ⟨_, l, h⟩
  | .hostProgramRing a b c d e :: l => rw [step_event hs (by simp)] at h; exact .inr ⟨_, l, h⟩
  | .hostWriteTail a b :: l => rw [step_event hs (by simp)] at h; exact .inr ⟨_, l, h⟩
  | .hostWriteReg a b :: l => rw [step_event hs (by simp)] at h; exact .inr ⟨_, l, h⟩
  | .hostWriteNamedReg a b :: l => rw [step_event hs (by simp)] at h; exact .inr ⟨_, l, h⟩
  | .hostReadMem a b c :: l => rw [step_event hs (by simp)] at h; exact .inr ⟨_, l, h⟩
  | .hostReadReg a :: l => rw [step_event hs (by simp)] at h; exact .inr ⟨_, l, h⟩
  | .hostMapPage a b c :: l => rw [step_event hs (by simp)] at h; exact .inr ⟨_, l, h⟩
  | .setStatusPage a b :: l => rw [step_event hs (by simp)] at h; exact .inr ⟨_, l, h⟩
  | .setTable a b :: l => rw [step_event hs (by simp)] at h; exact .inr ⟨_, l, h⟩
  | .dataPortWrite a b :: l => rw [step_event hs (by simp)] at h; exact .inr ⟨_, l, h⟩
  | .spawnThread a :: l => rw [step_event hs (by simp)] at h; exact .inr ⟨_, l, h⟩
  | .euException a :: l => rw [step_event hs (by simp)] at h; exact .inr ⟨_, l, h⟩
  | .hostSetTableSize a b :: l => rw [step_event hs (by simp)] at h; exact .inr ⟨_, l, h⟩
  | .deviceWriteReserved a b :: l => rw [step_event hs (by simp)] at h; exact .inr ⟨_, l, h⟩
  | .scratchWrite a b c :: l => rw [step_event hs (by simp)] at h; exact .inr ⟨_, l, h⟩
  | .pushMask a b :: l => rw [step_event hs (by simp)] at h; exact .inr ⟨_, l, h⟩
  | .popMask a :: l => rw [step_event hs (by simp)] at h; exact .inr ⟨_, l, h⟩
  | .endThread a :: l => rw [step_event hs (by simp)] at h; exact .inr ⟨_, l, h⟩
  | .urbWrite a b :: l => rw [step_event hs (by simp)] at h; exact .inr ⟨_, l, h⟩
  | .cache a :: l => rw [step_event hs (by simp)] at h; exact .inr ⟨_, l, h⟩
  | .vcsDmaRequest :: l => rw [step_event hs (by simp)] at h; exact .inr ⟨_, l, h⟩
  | .surfaceAccess a :: l => rw [step_event hs (by simp)] at h; exact .inr ⟨_, l, h⟩

end Sys2Proof.Machine
end

