-- ==== Sys2Proof/Laws/PerInstr.lean ====
section
/-! SUPPORT. Per instruction: the header the encoder writes has the mask and match bits of the instruction's row in the
opcode table. -/

namespace Sys2Proof.Laws

/-- Mask and match of the row of the opcode table. -/
def tableRow : Instr → Word × Word
  | .pipelineSelect .. => (0xFFFF0000, 0x69040000)
  | .stateBaseAddress .. => (0xFFFF0000, 0x61010000)
  | .stateSip .. => (0xFFFF0000, 0x61020000)
  | .swtessBaseAddress .. => (0xFFFF0000, 0x61030000)
  | .gpgpuCsrBaseAddress .. => (0xFFFF0000, 0x61040000)
  | .statePrefetch .. => (0xFFFF0000, 0x60030000)
  | .miNoop .. => (0xFF800000, 0x00000000)
  | .miUserInterrupt .. => (0xFF800000, 0x01000000)
  | .miWaitForEvent .. => (0xFF800000, 0x01800000)
  | .miOpcode04hUnnamed .. => (0xFF800000, 0x02000000)
  | .miArbCheck .. => (0xFF800000, 0x02800000)
  | .miReportHead .. => (0xFF800000, 0x03800000)
  | .miArbOnOff .. => (0xFF800000, 0x04000000)
  | .miBatchBufferEnd .. => (0xFF800000, 0x05000000)
  | .miSuspendFlush .. => (0xFF800000, 0x05800000)
  | .miPredicate .. => (0xFF800000, 0x06000000)
  | .miTopologyFilter .. => (0xFF800000, 0x06800000)
  | .miSetAppid .. => (0xFF800000, 0x07000000)
  | .miDisplayFlip .. => (0xFF800000, 0x0A000000)
  | .miSemaphoreMbox .. => (0xFF800000, 0x0B000000)
  | .miSetContext .. => (0xFF800000, 0x0C000000)
  | .miMath .. => (0xFF800000, 0x0D000000)
  | .miStoreDataImm .. => (0xFF800000, 0x10000000)
  | .miStoreDataIndex .. => (0xFF800000, 0x10800000)
  | .miLoadRegisterImm .. => (0xFF800000, 0x11000000)
  | .miUpdateGtt .. => (0xFF800000, 0x11800000)
  | .miStoreRegisterMem .. => (0xFF800000, 0x12000000)
  | .miFlushDw .. => (0xFF800000, 0x13000000)
  | .miClflush .. => (0xFF800000, 0x13800000)
  | .miReportPerfCount .. => (0xFF800000, 0x14000000)
  | .miLoadRegisterMem .. => (0xFF800000, 0x14800000)
  | .miBatchBufferStart .. => (0xFF800000, 0x18800000)
  | .miConditionalBatchBufferEnd .. => (0xFF800000, 0x1B000000)
  | .xySetupBlt .. => (0xFFC00000, 0x40400000)
  | .xySetupClipBlt .. => (0xFFC00000, 0x40C00000)
  | .xySetupMonoPatternSlBlt .. => (0xFFC00000, 0x44400000)
  | .xyPixelBlt .. => (0xFFC00000, 0x49000000)
  | .xyScanlinesBlt .. => (0xFFC00000, 0x49400000)
  | .xyTextBlt .. => (0xFFC00000, 0x49800000)
  | .xyTextImmediateBlt .. => (0xFFC00000, 0x4C400000)
  | .colorBlt .. => (0xFFC00000, 0x50000000)
  | .srcCopyBlt .. => (0xFFC00000, 0x50C00000)
  | .xyColorBlt .. => (0xFFC00000, 0x54000000)
  | .xyPatBlt .. => (0xFFC00000, 0x54400000)
  | .xyMonoPatBlt .. => (0xFFC00000, 0x54800000)
  | .xySrcCopyBlt .. => (0xFFC00000, 0x54C00000)
  | .xyMonoSrcCopyBlt .. => (0xFFC00000, 0x55000000)
  | .xyFullBlt .. => (0xFFC00000, 0x55400000)
  | .xyFullMonoSrcBlt .. => (0xFFC00000, 0x55800000)
  | .xyFullMonoPatternBlt .. => (0xFFC00000, 0x55C00000)
  | .xyFullMonoPatternMonoSrcBlt .. => (0xFFC00000, 0x56000000)
  | .xyMonoPatFixedBlt .. => (0xFFC00000, 0x56400000)
  | .xyMonoSrcCopyImmediateBlt .. => (0xFFC00000, 0x5C400000)
  | .xyPatBltImmediate .. => (0xFFC00000, 0x5C800000)
  | .xySrcCopyChromaBlt .. => (0xFFC00000, 0x5CC00000)
  | .xyFullImmediatePatternBlt .. => (0xFFC00000, 0x5D000000)
  | .xyFullMonoSrcImmediatePatternBlt .. => (0xFFC00000, 0x5D400000)
  | .xyPatChromaBlt .. => (0xFFC00000, 0x5D800000)
  | .xyPatChromaBltImmediate .. => (0xFFC00000, 0x5DC00000)
  | .state3dClearParams .. => (0xFFFF0000, 0x78040000)
  | .state3dDepthBuffer .. => (0xFFFF0000, 0x78050000)
  | .state3dStencilBuffer .. => (0xFFFF0000, 0x78060000)
  | .state3dHierDepthBuffer .. => (0xFFFF0000, 0x78070000)
  | .state3dVertexBuffers .. => (0xFFFF0000, 0x78080000)
  | .state3dVertexElements .. => (0xFFFF0000, 0x78090000)
  | .state3dIndexBuffer .. => (0xFFFF0000, 0x780A0000)
  | .state3dVfStatistics .. => (0xFFFF0000, 0x780B0000)
  | .state3dViewportStatePointers .. => (0xFFFF0000, 0x780D0000)
  | .state3dVs .. => (0xFFFF0000, 0x78100000)
  | .state3dGs .. => (0xFFFF0000, 0x78110000)
  | .state3dClip .. => (0xFFFF0000, 0x78120000)
  | .state3dSf .. => (0xFFFF0000, 0x78130000)
  | .state3dWm .. => (0xFFFF0000, 0x78140000)
  | .state3dConstantVs .. => (0xFFFF0000, 0x78150000)
  | .state3dConstantGs .. => (0xFFFF0000, 0x78160000)
  | .state3dConstantPs .. => (0xFFFF0000, 0x78170000)
  | .state3dSampleMask .. => (0xFFFF0000, 0x78180000)
  | .state3dConstantHs .. => (0xFFFF0000, 0x78190000)
  | .state3dConstantDs .. => (0xFFFF0000, 0x781A0000)
  | .state3dHs .. => (0xFFFF0000, 0x781B0000)
  | .state3dTe .. => (0xFFFF0000, 0x781C0000)
  | .state3dDs .. => (0xFFFF0000, 0x781D0000)
  | .state3dStreamout .. => (0xFFFF0000, 0x781E0000)
  | .state3dSbe .. => (0xFFFF0000, 0x781F0000)
  | .state3dPs .. => (0xFFFF0000, 0x78200000)
  | .state3dViewportStatePointersSfClip .. => (0xFFFF0000, 0x78220000)
  | .state3dViewportStatePointersCc .. => (0xFFFF0000, 0x78230000)
  | .state3dBlendStatePointers .. => (0xFFFF0000, 0x78240000)
  | .state3dDepthStencilStatePointers .. => (0xFFFF0000, 0x78250000)
  | .state3dBindingTablePointersVs .. => (0xFFFF0000, 0x78260000)
  | .state3dBindingTablePointersHs .. => (0xFFFF0000, 0x78270000)
  | .state3dBindingTablePointersDs .. => (0xFFFF0000, 0x78280000)
  | .state3dBindingTablePointersGs .. => (0xFFFF0000, 0x78290000)
  | .state3dBindingTablePointersPs .. => (0xFFFF0000, 0x782A0000)
  | .state3dSamplerStatePointersVs .. => (0xFFFF0000, 0x782B0000)
  | .state3dSamplerStatePointersHs .. => (0xFFFF0000, 0x782C0000)
  | .state3dSamplerStatePointersDs .. => (0xFFFF0000, 0x782D0000)
  | .state3dSamplerStatePointersGs .. => (0xFFFF0000, 0x782E0000)
  | .state3dUrbVs .. => (0xFFFF0000, 0x78300000)
  | .state3dUrbHs .. => (0xFFFF0000, 0x78310000)
  | .state3dUrbDs .. => (0xFFFF0000, 0x78320000)
  | .state3dUrbGs .. => (0xFFFF0000, 0x78330000)
  | .state3dWmChromaKey .. => (0xFFFF0000, 0x784C0000)
  | .state3dPsBlend .. => (0xFFFF0000, 0x784D0000)
  | .state3dWmDepthStencil .. => (0xFFFF0000, 0x784E0000)
  | .state3dPsExtra .. => (0xFFFF0000, 0x784F0000)
  | .state3dRaster .. => (0xFFFF0000, 0x78500000)
  | .state3dSbeSwiz .. => (0xFFFF0000, 0x78510000)
  | .state3dWmHzOp .. => (0xFFFF0000, 0x78520000)
  | .state3dInt .. => (0xFFFF0000, 0x78530000)
  | .state3dDrawingRectangle .. => (0xFFFF0000, 0x79000000)
  | .state3dSamplerPaletteLoad0 .. => (0xFFFF0000, 0x79020000)
  | .state3dChromaKey .. => (0xFFFF0000, 0x79040000)
  | .state3dPolyStippleOffset .. => (0xFFFF0000, 0x79060000)
  | .state3dPolyStipplePattern .. => (0xFFFF0000, 0x79070000)
  | .state3dLineStipple .. => (0xFFFF0000, 0x79080000)
  | .state3dAaLineParams .. => (0xFFFF0000, 0x790A0000)
  | .state3dGsSvbIndex .. => (0xFFFF0000, 0x790B0000)
  | .state3dSamplerPaletteLoad1 .. => (0xFFFF0000, 0x790C0000)
  | .state3dMultisample .. => (0xFFFF0000, 0x790D0000)
  | .state3dStencilBufferNp .. => (0xFFFF0000, 0x790E0000)
  | .state3dHierDepthBufferNp .. => (0xFFFF0000, 0x790F0000)
  | .state3dClearParamsNp .. => (0xFFFF0000, 0x79100000)
  | .state3dMonofilterSize .. => (0xFFFF0000, 0x79110000)
  | .state3dPushConstantAllocVs .. => (0xFFFF0000, 0x79120000)
  | .state3dPushConstantAllocHs .. => (0xFFFF0000, 0x79130000)
  | .state3dPushConstantAllocDs .. => (0xFFFF0000, 0x79140000)
  | .state3dPushConstantAllocGs .. => (0xFFFF0000, 0x79150000)
  | .state3dPushConstantAllocPs .. => (0xFFFF0000, 0x79160000)
  | .state3dSoDeclList .. => (0xFFFF0000, 0x79170000)
  | .state3dSoBuffer .. => (0xFFFF0000, 0x79180000)
  | .state3dSamplePattern .. => (0xFFFF0000, 0x791C0000)
  | .state3dUrbClear .. => (0xFFFF0000, 0x791D0000)
  | .pipeControl .. => (0xFFFF0000, 0x7A000000)
  | .primitive3d .. => (0xFFFF0000, 0x7B000000)
  | .mfxPipeModeSelect .. => (0xFFFF0000, 0x70000000)
  | .mfxSurfaceState .. => (0xFFFF0000, 0x70010000)
  | .mfxPipeBufAddrState .. => (0xFFFF0000, 0x70020000)
  | .mfxIndObjBaseAddrState .. => (0xFFFF0000, 0x70030000)
  | .mfxBspBufBaseAddrState .. => (0xFFFF0000, 0x70040000)
  | .mfx005Unnamed .. => (0xFFFF0000, 0x70050000)
  | .mfxStatePointer .. => (0xFFFF0000, 0x70060000)
  | .mfdItObject .. => (0xFFFF0000, 0x70290000)
  | .mfxAvcImgState .. => (0xFFFF0000, 0x71000000)
  | .mfxAvcQmState .. => (0xFFFF0000, 0x71010000)
  | .mfxAvcDirectmodeState .. => (0xFFFF0000, 0x71020000)
  | .mfxAvcSliceState .. => (0xFFFF0000, 0x71030000)
  | .mfxAvcRefIdxState .. => (0xFFFF0000, 0x71040000)
  | .mfxAvcWeightoffsetState .. => (0xFFFF0000, 0x71050000)
  | .mfdAvcBsdObject .. => (0xFFFF0000, 0x71280000)
  | .mfcAvcFqmState .. => (0xFFFF0000, 0x71420000)
  | .mfcAvcPakInsertObject .. => (0xFFFF0000, 0x71480000)
  | .mfcAvcPakObject .. => (0xFFFF0000, 0x71490000)
  | .mfxVc1PicState .. => (0xFFFF0000, 0x72000000)
  | .mfxVc1PredPipeState .. => (0xFFFF0000, 0x72010000)
  | .mfxVc1DirectmodeState .. => (0xFFFF0000, 0x72020000)
  | .mfdVc1BsdObject .. => (0xFFFF0000, 0x72280000)
  | .mfxMpeg2PicState .. => (0xFFFF0000, 0x73000000)
  | .mfxMpeg2QmState .. => (0xFFFF0000, 0x73010000)
  | .mfdMpeg2BsdObject .. => (0xFFFF0000, 0x73280000)
  | .mfxSingleDwUnnamed => (0xFFFFFFFF, 0x68000000)
  | .mediaSubtype2hUnmapped .. => (0xF8000000, 0x70000000)

theorem header16_masked (a d : BitVec 16) : encodeHeader16 a d &&& 0xFFFF0000#32 = encodeHeader16 a 0 := by
  apply BitVec.eq_of_getLsbD_eq
  intro i hi
  change ((a ++ d) &&& (0xFFFF#16 ++ 0#16)).getLsbD i = (a ++ 0#16).getLsbD i
  simp only [BitVec.getLsbD_and, BitVec.getLsbD_append]
  split
  · simp
  · have : i - 16 < 16 := by omega
    have h : ∀ j, j < 16 → (0xFFFF#16).getLsbD j = true := by decide
    simp [h _ this]

theorem headerMi_masked (a : BitVec 9) (d : BitVec 23) : encodeHeaderMi a d &&& 0xFF800000#32 = encodeHeaderMi a 0 := by
  apply BitVec.eq_of_getLsbD_eq
  intro i hi
  change ((a ++ d) &&& (0x1FF#9 ++ 0#23)).getLsbD i = (a ++ 0#23).getLsbD i
  simp only [BitVec.getLsbD_and, BitVec.getLsbD_append]
  split
  · simp
  · have : i - 23 < 9 := by omega
    have h : ∀ j, j < 9 → (0x1FF#9).getLsbD j = true := by decide
    simp [h _ this]

theorem header2d_masked (a : BitVec 10) (d : BitVec 22) :
    encodeHeader2d a d &&& 0xFFC00000#32 = encodeHeader2d a 0 := by
  apply BitVec.eq_of_getLsbD_eq
  intro i hi
  change ((a ++ d) &&& (0x3FF#10 ++ 0#22)).getLsbD i = (a ++ 0#22).getLsbD i
  simp only [BitVec.getLsbD_and, BitVec.getLsbD_append]
  split
  · simp
  · have : i - 22 < 10 := by omega
    have h : ∀ j, j < 10 → (0x3FF#10).getLsbD j = true := by decide
    simp [h _ this]

theorem headerMedia_masked (d : BitVec 27) :
    (0x0E#5 ++ d : BitVec (5 + 27)) &&& 0xF8000000#32 = 0x70000000#32 := by
  apply BitVec.eq_of_getLsbD_eq
  intro i hi
  change ((0x0E#5 ++ d) &&& (0x1F#5 ++ 0#27)).getLsbD i = (0x0E#5 ++ 0#27).getLsbD i
  simp only [BitVec.getLsbD_and, BitVec.getLsbD_append]
  split
  · simp
  · have : i - 27 < 5 := by omega
    have h : ∀ j, j < 5 → (0x1F#5).getLsbD j = true := by decide
    simp [h _ this]

/-- The header of the encoding matches the row. -/
def HeaderMatchesTable.Statement (i : Instr) : Prop := (encode i).headD 0 &&& (tableRow i).1 = (tableRow i).2

theorem HeaderMatchesTable.pipelineSelect (reserved : BitVec 14) (select : BitVec 2) :
    HeaderMatchesTable.Statement (.pipelineSelect reserved select) := (header16_masked _ _).trans rfl

theorem HeaderMatchesTable.stateBaseAddress (header : LenHeader) (general : SbaGeneral) (surface : SbaBase) (dynamicState : SbaBase) (indirectObject : SbaBase) (instruction : SbaBase) (generalBound : SbaBound) (dynamicBound : SbaBound) (indirectBound : SbaBound) (instructionBound : SbaBound) :
    HeaderMatchesTable.Statement (.stateBaseAddress header general surface dynamicState indirectObject instruction generalBound dynamicBound indirectBound instructionBound) := (header16_masked _ _).trans rfl

theorem HeaderMatchesTable.stateSip (header : LenHeader) (sip : BitVec 28) (reserved : BitVec 4) :
    HeaderMatchesTable.Statement (.stateSip header sip reserved) := (header16_masked _ _).trans rfl

theorem HeaderMatchesTable.swtessBaseAddress (header : LenHeader) (base : BitVec 20) (mocs : BitVec 4) (reserved : BitVec 8) :
    HeaderMatchesTable.Statement (.swtessBaseAddress header base mocs reserved) := (header16_masked _ _).trans rfl

theorem HeaderMatchesTable.gpgpuCsrBaseAddress (data : BitVec 16) :
    HeaderMatchesTable.Statement (.gpgpuCsrBaseAddress data) := (header16_masked _ _).trans rfl

theorem HeaderMatchesTable.statePrefetch (header : LenHeader) (pointer : BitVec 26) (reserved : BitVec 3) (count : BitVec 3) :
    HeaderMatchesTable.Statement (.statePrefetch header pointer reserved count) := (header16_masked _ _).trans rfl

theorem HeaderMatchesTable.miNoop (data : BitVec 23) :
    HeaderMatchesTable.Statement (.miNoop data) := (headerMi_masked _ _).trans rfl

theorem HeaderMatchesTable.miUserInterrupt (data : BitVec 23) :
    HeaderMatchesTable.Statement (.miUserInterrupt data) := (headerMi_masked _ _).trans rfl

theorem HeaderMatchesTable.miWaitForEvent (data : BitVec 23) :
    HeaderMatchesTable.Statement (.miWaitForEvent data) := (headerMi_masked _ _).trans rfl

theorem HeaderMatchesTable.miOpcode04hUnnamed (data : BitVec 23) :
    HeaderMatchesTable.Statement (.miOpcode04hUnnamed data) := (headerMi_masked _ _).trans rfl

theorem HeaderMatchesTable.miArbCheck (data : BitVec 23) :
    HeaderMatchesTable.Statement (.miArbCheck data) := (headerMi_masked _ _).trans rfl

theorem HeaderMatchesTable.miReportHead (data : BitVec 23) :
    HeaderMatchesTable.Statement (.miReportHead data) := (headerMi_masked _ _).trans rfl

theorem HeaderMatchesTable.miArbOnOff (data : BitVec 23) :
    HeaderMatchesTable.Statement (.miArbOnOff data) := (headerMi_masked _ _).trans rfl

theorem HeaderMatchesTable.miBatchBufferEnd (data : BitVec 23) :
    HeaderMatchesTable.Statement (.miBatchBufferEnd data) := (headerMi_masked _ _).trans rfl

theorem HeaderMatchesTable.miSuspendFlush (data : BitVec 23) :
    HeaderMatchesTable.Statement (.miSuspendFlush data) := (headerMi_masked _ _).trans rfl

theorem HeaderMatchesTable.miPredicate (data : BitVec 23) :
    HeaderMatchesTable.Statement (.miPredicate data) := (headerMi_masked _ _).trans rfl

theorem HeaderMatchesTable.miTopologyFilter (data : BitVec 23) :
    HeaderMatchesTable.Statement (.miTopologyFilter data) := (headerMi_masked _ _).trans rfl

theorem HeaderMatchesTable.miSetAppid (data : BitVec 23) :
    HeaderMatchesTable.Statement (.miSetAppid data) := (headerMi_masked _ _).trans rfl

theorem HeaderMatchesTable.miDisplayFlip (data : BitVec 23) :
    HeaderMatchesTable.Statement (.miDisplayFlip data) := (headerMi_masked _ _).trans rfl

theorem HeaderMatchesTable.miSemaphoreMbox (data : BitVec 23) :
    HeaderMatchesTable.Statement (.miSemaphoreMbox data) := (headerMi_masked _ _).trans rfl

theorem HeaderMatchesTable.miSetContext (data : BitVec 23) :
    HeaderMatchesTable.Statement (.miSetContext data) := (headerMi_masked _ _).trans rfl

theorem HeaderMatchesTable.miMath (data : BitVec 23) :
    HeaderMatchesTable.Statement (.miMath data) := (headerMi_masked _ _).trans rfl

theorem HeaderMatchesTable.miStoreDataImm (data : BitVec 23) :
    HeaderMatchesTable.Statement (.miStoreDataImm data) := (headerMi_masked _ _).trans rfl

theorem HeaderMatchesTable.miStoreDataIndex (data : BitVec 23) :
    HeaderMatchesTable.Statement (.miStoreDataIndex data) := (headerMi_masked _ _).trans rfl

theorem HeaderMatchesTable.miLoadRegisterImm (data : BitVec 23) :
    HeaderMatchesTable.Statement (.miLoadRegisterImm data) := (headerMi_masked _ _).trans rfl

theorem HeaderMatchesTable.miUpdateGtt (data : BitVec 23) :
    HeaderMatchesTable.Statement (.miUpdateGtt data) := (headerMi_masked _ _).trans rfl

theorem HeaderMatchesTable.miStoreRegisterMem (data : BitVec 23) :
    HeaderMatchesTable.Statement (.miStoreRegisterMem data) := (headerMi_masked _ _).trans rfl

theorem HeaderMatchesTable.miFlushDw (data : BitVec 23) :
    HeaderMatchesTable.Statement (.miFlushDw data) := (headerMi_masked _ _).trans rfl

theorem HeaderMatchesTable.miClflush (data : BitVec 23) :
    HeaderMatchesTable.Statement (.miClflush data) := (headerMi_masked _ _).trans rfl

theorem HeaderMatchesTable.miReportPerfCount (data : BitVec 23) :
    HeaderMatchesTable.Statement (.miReportPerfCount data) := (headerMi_masked _ _).trans rfl

theorem HeaderMatchesTable.miLoadRegisterMem (data : BitVec 23) :
    HeaderMatchesTable.Statement (.miLoadRegisterMem data) := (headerMi_masked _ _).trans rfl

theorem HeaderMatchesTable.miBatchBufferStart (data : BitVec 23) :
    HeaderMatchesTable.Statement (.miBatchBufferStart data) := (headerMi_masked _ _).trans rfl

theorem HeaderMatchesTable.miConditionalBatchBufferEnd (data : BitVec 23) :
    HeaderMatchesTable.Statement (.miConditionalBatchBufferEnd data) := (headerMi_masked _ _).trans rfl

theorem HeaderMatchesTable.xySetupBlt (data : BitVec 22) :
    HeaderMatchesTable.Statement (.xySetupBlt data) := (header2d_masked _ _).trans rfl

theorem HeaderMatchesTable.xySetupClipBlt (data : BitVec 22) :
    HeaderMatchesTable.Statement (.xySetupClipBlt data) := (header2d_masked _ _).trans rfl

theorem HeaderMatchesTable.xySetupMonoPatternSlBlt (data : BitVec 22) :
    HeaderMatchesTable.Statement (.xySetupMonoPatternSlBlt data) := (header2d_masked _ _).trans rfl

theorem HeaderMatchesTable.xyPixelBlt (data : BitVec 22) :
    HeaderMatchesTable.Statement (.xyPixelBlt data) := (header2d_masked _ _).trans rfl

theorem HeaderMatchesTable.xyScanlinesBlt (data : BitVec 22) :
    HeaderMatchesTable.Statement (.xyScanlinesBlt data) := (header2d_masked _ _).trans rfl

theorem HeaderMatchesTable.xyTextBlt (data : BitVec 22) :
    HeaderMatchesTable.Statement (.xyTextBlt data) := (header2d_masked _ _).trans rfl

theorem HeaderMatchesTable.xyTextImmediateBlt (data : BitVec 22) :
    HeaderMatchesTable.Statement (.xyTextImmediateBlt data) := (header2d_masked _ _).trans rfl

theorem HeaderMatchesTable.colorBlt (data : BitVec 22) :
    HeaderMatchesTable.Statement (.colorBlt data) := (header2d_masked _ _).trans rfl

theorem HeaderMatchesTable.srcCopyBlt (data : BitVec 22) :
    HeaderMatchesTable.Statement (.srcCopyBlt data) := (header2d_masked _ _).trans rfl

theorem HeaderMatchesTable.xyColorBlt (data : BitVec 22) :
    HeaderMatchesTable.Statement (.xyColorBlt data) := (header2d_masked _ _).trans rfl

theorem HeaderMatchesTable.xyPatBlt (data : BitVec 22) :
    HeaderMatchesTable.Statement (.xyPatBlt data) := (header2d_masked _ _).trans rfl

theorem HeaderMatchesTable.xyMonoPatBlt (data : BitVec 22) :
    HeaderMatchesTable.Statement (.xyMonoPatBlt data) := (header2d_masked _ _).trans rfl

theorem HeaderMatchesTable.xySrcCopyBlt (data : BitVec 22) :
    HeaderMatchesTable.Statement (.xySrcCopyBlt data) := (header2d_masked _ _).trans rfl

theorem HeaderMatchesTable.xyMonoSrcCopyBlt (data : BitVec 22) :
    HeaderMatchesTable.Statement (.xyMonoSrcCopyBlt data) := (header2d_masked _ _).trans rfl

theorem HeaderMatchesTable.xyFullBlt (data : BitVec 22) :
    HeaderMatchesTable.Statement (.xyFullBlt data) := (header2d_masked _ _).trans rfl

theorem HeaderMatchesTable.xyFullMonoSrcBlt (data : BitVec 22) :
    HeaderMatchesTable.Statement (.xyFullMonoSrcBlt data) := (header2d_masked _ _).trans rfl

theorem HeaderMatchesTable.xyFullMonoPatternBlt (data : BitVec 22) :
    HeaderMatchesTable.Statement (.xyFullMonoPatternBlt data) := (header2d_masked _ _).trans rfl

theorem HeaderMatchesTable.xyFullMonoPatternMonoSrcBlt (data : BitVec 22) :
    HeaderMatchesTable.Statement (.xyFullMonoPatternMonoSrcBlt data) := (header2d_masked _ _).trans rfl

theorem HeaderMatchesTable.xyMonoPatFixedBlt (data : BitVec 22) :
    HeaderMatchesTable.Statement (.xyMonoPatFixedBlt data) := (header2d_masked _ _).trans rfl

theorem HeaderMatchesTable.xyMonoSrcCopyImmediateBlt (data : BitVec 22) :
    HeaderMatchesTable.Statement (.xyMonoSrcCopyImmediateBlt data) := (header2d_masked _ _).trans rfl

theorem HeaderMatchesTable.xyPatBltImmediate (data : BitVec 22) :
    HeaderMatchesTable.Statement (.xyPatBltImmediate data) := (header2d_masked _ _).trans rfl

theorem HeaderMatchesTable.xySrcCopyChromaBlt (data : BitVec 22) :
    HeaderMatchesTable.Statement (.xySrcCopyChromaBlt data) := (header2d_masked _ _).trans rfl

theorem HeaderMatchesTable.xyFullImmediatePatternBlt (data : BitVec 22) :
    HeaderMatchesTable.Statement (.xyFullImmediatePatternBlt data) := (header2d_masked _ _).trans rfl

theorem HeaderMatchesTable.xyFullMonoSrcImmediatePatternBlt (data : BitVec 22) :
    HeaderMatchesTable.Statement (.xyFullMonoSrcImmediatePatternBlt data) := (header2d_masked _ _).trans rfl

theorem HeaderMatchesTable.xyPatChromaBlt (data : BitVec 22) :
    HeaderMatchesTable.Statement (.xyPatChromaBlt data) := (header2d_masked _ _).trans rfl

theorem HeaderMatchesTable.xyPatChromaBltImmediate (data : BitVec 22) :
    HeaderMatchesTable.Statement (.xyPatChromaBltImmediate data) := (header2d_masked _ _).trans rfl

theorem HeaderMatchesTable.state3dClearParams (data : BitVec 16) :
    HeaderMatchesTable.Statement (.state3dClearParams data) := (header16_masked _ _).trans rfl

theorem HeaderMatchesTable.state3dDepthBuffer (data : BitVec 16) :
    HeaderMatchesTable.Statement (.state3dDepthBuffer data) := (header16_masked _ _).trans rfl

theorem HeaderMatchesTable.state3dStencilBuffer (data : BitVec 16) :
    HeaderMatchesTable.Statement (.state3dStencilBuffer data) := (header16_masked _ _).trans rfl

theorem HeaderMatchesTable.state3dHierDepthBuffer (data : BitVec 16) :
    HeaderMatchesTable.Statement (.state3dHierDepthBuffer data) := (header16_masked _ _).trans rfl

theorem HeaderMatchesTable.state3dVertexBuffers (data : BitVec 16) :
    HeaderMatchesTable.Statement (.state3dVertexBuffers data) := (header16_masked _ _).trans rfl

theorem HeaderMatchesTable.state3dVertexElements (data : BitVec 16) :
    HeaderMatchesTable.Statement (.state3dVertexElements data) := (header16_masked _ _).trans rfl

theorem HeaderMatchesTable.state3dIndexBuffer (data : BitVec 16) :
    HeaderMatchesTable.Statement (.state3dIndexBuffer data) := (header16_masked _ _).trans rfl

theorem HeaderMatchesTable.state3dVfStatistics (data : BitVec 16) :
    HeaderMatchesTable.Statement (.state3dVfStatistics data) := (header16_masked _ _).trans rfl

theorem HeaderMatchesTable.state3dViewportStatePointers (data : BitVec 16) :
    HeaderMatchesTable.Statement (.state3dViewportStatePointers data) := (header16_masked _ _).trans rfl

theorem HeaderMatchesTable.state3dVs (data : BitVec 16) :
    HeaderMatchesTable.Statement (.state3dVs data) := (header16_masked _ _).trans rfl

theorem HeaderMatchesTable.state3dGs (data : BitVec 16) :
    HeaderMatchesTable.Statement (.state3dGs data) := (header16_masked _ _).trans rfl

theorem HeaderMatchesTable.state3dClip (data : BitVec 16) :
    HeaderMatchesTable.Statement (.state3dClip data) := (header16_masked _ _).trans rfl

theorem HeaderMatchesTable.state3dSf (data : BitVec 16) :
    HeaderMatchesTable.Statement (.state3dSf data) := (header16_masked _ _).trans rfl

theorem HeaderMatchesTable.state3dWm (data : BitVec 16) :
    HeaderMatchesTable.Statement (.state3dWm data) := (header16_masked _ _).trans rfl

theorem HeaderMatchesTable.state3dConstantVs (data : BitVec 16) :
    HeaderMatchesTable.Statement (.state3dConstantVs data) := (header16_masked _ _).trans rfl

theorem HeaderMatchesTable.state3dConstantGs (data : BitVec 16) :
    HeaderMatchesTable.Statement (.state3dConstantGs data) := (header16_masked _ _).trans rfl

theorem HeaderMatchesTable.state3dConstantPs (data : BitVec 16) :
    HeaderMatchesTable.Statement (.state3dConstantPs data) := (header16_masked _ _).trans rfl

theorem HeaderMatchesTable.state3dSampleMask (data : BitVec 16) :
    HeaderMatchesTable.Statement (.state3dSampleMask data) := (header16_masked _ _).trans rfl

theorem HeaderMatchesTable.state3dConstantHs (data : BitVec 16) :
    HeaderMatchesTable.Statement (.state3dConstantHs data) := (header16_masked _ _).trans rfl

theorem HeaderMatchesTable.state3dConstantDs (data : BitVec 16) :
    HeaderMatchesTable.Statement (.state3dConstantDs data) := (header16_masked _ _).trans rfl

theorem HeaderMatchesTable.state3dHs (data : BitVec 16) :
    HeaderMatchesTable.Statement (.state3dHs data) := (header16_masked _ _).trans rfl

theorem HeaderMatchesTable.state3dTe (data : BitVec 16) :
    HeaderMatchesTable.Statement (.state3dTe data) := (header16_masked _ _).trans rfl

theorem HeaderMatchesTable.state3dDs (data : BitVec 16) :
    HeaderMatchesTable.Statement (.state3dDs data) := (header16_masked _ _).trans rfl

theorem HeaderMatchesTable.state3dStreamout (data : BitVec 16) :
    HeaderMatchesTable.Statement (.state3dStreamout data) := (header16_masked _ _).trans rfl

theorem HeaderMatchesTable.state3dSbe (data : BitVec 16) :
    HeaderMatchesTable.Statement (.state3dSbe data) := (header16_masked _ _).trans rfl

theorem HeaderMatchesTable.state3dPs (data : BitVec 16) :
    HeaderMatchesTable.Statement (.state3dPs data) := (header16_masked _ _).trans rfl

theorem HeaderMatchesTable.state3dViewportStatePointersSfClip (data : BitVec 16) :
    HeaderMatchesTable.Statement (.state3dViewportStatePointersSfClip data) := (header16_masked _ _).trans rfl

theorem HeaderMatchesTable.state3dViewportStatePointersCc (data : BitVec 16) :
    HeaderMatchesTable.Statement (.state3dViewportStatePointersCc data) := (header16_masked _ _).trans rfl

theorem HeaderMatchesTable.state3dBlendStatePointers (data : BitVec 16) :
    HeaderMatchesTable.Statement (.state3dBlendStatePointers data) := (header16_masked _ _).trans rfl

theorem HeaderMatchesTable.state3dDepthStencilStatePointers (data : BitVec 16) :
    HeaderMatchesTable.Statement (.state3dDepthStencilStatePointers data) := (header16_masked _ _).trans rfl

theorem HeaderMatchesTable.state3dBindingTablePointersVs (data : BitVec 16) :
    HeaderMatchesTable.Statement (.state3dBindingTablePointersVs data) := (header16_masked _ _).trans rfl

theorem HeaderMatchesTable.state3dBindingTablePointersHs (data : BitVec 16) :
    HeaderMatchesTable.Statement (.state3dBindingTablePointersHs data) := (header16_masked _ _).trans rfl

theorem HeaderMatchesTable.state3dBindingTablePointersDs (data : BitVec 16) :
    HeaderMatchesTable.Statement (.state3dBindingTablePointersDs data) := (header16_masked _ _).trans rfl

theorem HeaderMatchesTable.state3dBindingTablePointersGs (data : BitVec 16) :
    HeaderMatchesTable.Statement (.state3dBindingTablePointersGs data) := (header16_masked _ _).trans rfl

theorem HeaderMatchesTable.state3dBindingTablePointersPs (data : BitVec 16) :
    HeaderMatchesTable.Statement (.state3dBindingTablePointersPs data) := (header16_masked _ _).trans rfl

theorem HeaderMatchesTable.state3dSamplerStatePointersVs (data : BitVec 16) :
    HeaderMatchesTable.Statement (.state3dSamplerStatePointersVs data) := (header16_masked _ _).trans rfl

theorem HeaderMatchesTable.state3dSamplerStatePointersHs (data : BitVec 16) :
    HeaderMatchesTable.Statement (.state3dSamplerStatePointersHs data) := (header16_masked _ _).trans rfl

theorem HeaderMatchesTable.state3dSamplerStatePointersDs (data : BitVec 16) :
    HeaderMatchesTable.Statement (.state3dSamplerStatePointersDs data) := (header16_masked _ _).trans rfl

theorem HeaderMatchesTable.state3dSamplerStatePointersGs (data : BitVec 16) :
    HeaderMatchesTable.Statement (.state3dSamplerStatePointersGs data) := (header16_masked _ _).trans rfl

theorem HeaderMatchesTable.state3dUrbVs (data : BitVec 16) :
    HeaderMatchesTable.Statement (.state3dUrbVs data) := (header16_masked _ _).trans rfl

theorem HeaderMatchesTable.state3dUrbHs (data : BitVec 16) :
    HeaderMatchesTable.Statement (.state3dUrbHs data) := (header16_masked _ _).trans rfl

theorem HeaderMatchesTable.state3dUrbDs (data : BitVec 16) :
    HeaderMatchesTable.Statement (.state3dUrbDs data) := (header16_masked _ _).trans rfl

theorem HeaderMatchesTable.state3dUrbGs (data : BitVec 16) :
    HeaderMatchesTable.Statement (.state3dUrbGs data) := (header16_masked _ _).trans rfl

theorem HeaderMatchesTable.state3dWmChromaKey (data : BitVec 16) :
    HeaderMatchesTable.Statement (.state3dWmChromaKey data) := (header16_masked _ _).trans rfl

theorem HeaderMatchesTable.state3dPsBlend (data : BitVec 16) :
    HeaderMatchesTable.Statement (.state3dPsBlend data) := (header16_masked _ _).trans rfl

theorem HeaderMatchesTable.state3dWmDepthStencil (data : BitVec 16) :
    HeaderMatchesTable.Statement (.state3dWmDepthStencil data) := (header16_masked _ _).trans rfl

theorem HeaderMatchesTable.state3dPsExtra (data : BitVec 16) :
    HeaderMatchesTable.Statement (.state3dPsExtra data) := (header16_masked _ _).trans rfl

theorem HeaderMatchesTable.state3dRaster (data : BitVec 16) :
    HeaderMatchesTable.Statement (.state3dRaster data) := (header16_masked _ _).trans rfl

theorem HeaderMatchesTable.state3dSbeSwiz (data : BitVec 16) :
    HeaderMatchesTable.Statement (.state3dSbeSwiz data) := (header16_masked _ _).trans rfl

theorem HeaderMatchesTable.state3dWmHzOp (data : BitVec 16) :
    HeaderMatchesTable.Statement (.state3dWmHzOp data) := (header16_masked _ _).trans rfl

theorem HeaderMatchesTable.state3dInt (data : BitVec 16) :
    HeaderMatchesTable.Statement (.state3dInt data) := (header16_masked _ _).trans rfl

theorem HeaderMatchesTable.state3dDrawingRectangle (data : BitVec 16) :
    HeaderMatchesTable.Statement (.state3dDrawingRectangle data) := (header16_masked _ _).trans rfl

theorem HeaderMatchesTable.state3dSamplerPaletteLoad0 (data : BitVec 16) :
    HeaderMatchesTable.Statement (.state3dSamplerPaletteLoad0 data) := (header16_masked _ _).trans rfl

theorem HeaderMatchesTable.state3dChromaKey (data : BitVec 16) :
    HeaderMatchesTable.Statement (.state3dChromaKey data) := (header16_masked _ _).trans rfl

theorem HeaderMatchesTable.state3dPolyStippleOffset (data : BitVec 16) :
    HeaderMatchesTable.Statement (.state3dPolyStippleOffset data) := (header16_masked _ _).trans rfl

theorem HeaderMatchesTable.state3dPolyStipplePattern (data : BitVec 16) :
    HeaderMatchesTable.Statement (.state3dPolyStipplePattern data) := (header16_masked _ _).trans rfl

theorem HeaderMatchesTable.state3dLineStipple (data : BitVec 16) :
    HeaderMatchesTable.Statement (.state3dLineStipple data) := (header16_masked _ _).trans rfl

theorem HeaderMatchesTable.state3dAaLineParams (data : BitVec 16) :
    HeaderMatchesTable.Statement (.state3dAaLineParams data) := (header16_masked _ _).trans rfl

theorem HeaderMatchesTable.state3dGsSvbIndex (data : BitVec 16) :
    HeaderMatchesTable.Statement (.state3dGsSvbIndex data) := (header16_masked _ _).trans rfl

theorem HeaderMatchesTable.state3dSamplerPaletteLoad1 (data : BitVec 16) :
    HeaderMatchesTable.Statement (.state3dSamplerPaletteLoad1 data) := (header16_masked _ _).trans rfl

theorem HeaderMatchesTable.state3dMultisample (data : BitVec 16) :
    HeaderMatchesTable.Statement (.state3dMultisample data) := (header16_masked _ _).trans rfl

theorem HeaderMatchesTable.state3dStencilBufferNp (data : BitVec 16) :
    HeaderMatchesTable.Statement (.state3dStencilBufferNp data) := (header16_masked _ _).trans rfl

theorem HeaderMatchesTable.state3dHierDepthBufferNp (data : BitVec 16) :
    HeaderMatchesTable.Statement (.state3dHierDepthBufferNp data) := (header16_masked _ _).trans rfl

theorem HeaderMatchesTable.state3dClearParamsNp (data : BitVec 16) :
    HeaderMatchesTable.Statement (.state3dClearParamsNp data) := (header16_masked _ _).trans rfl

theorem HeaderMatchesTable.state3dMonofilterSize (data : BitVec 16) :
    HeaderMatchesTable.Statement (.state3dMonofilterSize data) := (header16_masked _ _).trans rfl

theorem HeaderMatchesTable.state3dPushConstantAllocVs (data : BitVec 16) :
    HeaderMatchesTable.Statement (.state3dPushConstantAllocVs data) := (header16_masked _ _).trans rfl

theorem HeaderMatchesTable.state3dPushConstantAllocHs (data : BitVec 16) :
    HeaderMatchesTable.Statement (.state3dPushConstantAllocHs data) := (header16_masked _ _).trans rfl

theorem HeaderMatchesTable.state3dPushConstantAllocDs (data : BitVec 16) :
    HeaderMatchesTable.Statement (.state3dPushConstantAllocDs data) := (header16_masked _ _).trans rfl

theorem HeaderMatchesTable.state3dPushConstantAllocGs (data : BitVec 16) :
    HeaderMatchesTable.Statement (.state3dPushConstantAllocGs data) := (header16_masked _ _).trans rfl

theorem HeaderMatchesTable.state3dPushConstantAllocPs (data : BitVec 16) :
    HeaderMatchesTable.Statement (.state3dPushConstantAllocPs data) := (header16_masked _ _).trans rfl

theorem HeaderMatchesTable.state3dSoDeclList (data : BitVec 16) :
    HeaderMatchesTable.Statement (.state3dSoDeclList data) := (header16_masked _ _).trans rfl

theorem HeaderMatchesTable.state3dSoBuffer (data : BitVec 16) :
    HeaderMatchesTable.Statement (.state3dSoBuffer data) := (header16_masked _ _).trans rfl

theorem HeaderMatchesTable.state3dSamplePattern (data : BitVec 16) :
    HeaderMatchesTable.Statement (.state3dSamplePattern data) := (header16_masked _ _).trans rfl

theorem HeaderMatchesTable.state3dUrbClear (data : BitVec 16) :
    HeaderMatchesTable.Statement (.state3dUrbClear data) := (header16_masked _ _).trans rfl

theorem HeaderMatchesTable.pipeControl (data : BitVec 16) :
    HeaderMatchesTable.Statement (.pipeControl data) := (header16_masked _ _).trans rfl

theorem HeaderMatchesTable.primitive3d (data : BitVec 16) :
    HeaderMatchesTable.Statement (.primitive3d data) := (header16_masked _ _).trans rfl

theorem HeaderMatchesTable.mfxPipeModeSelect (data : BitVec 16) :
    HeaderMatchesTable.Statement (.mfxPipeModeSelect data) := (header16_masked _ _).trans rfl

theorem HeaderMatchesTable.mfxSurfaceState (data : BitVec 16) :
    HeaderMatchesTable.Statement (.mfxSurfaceState data) := (header16_masked _ _).trans rfl

theorem HeaderMatchesTable.mfxPipeBufAddrState (data : BitVec 16) :
    HeaderMatchesTable.Statement (.mfxPipeBufAddrState data) := (header16_masked _ _).trans rfl

theorem HeaderMatchesTable.mfxIndObjBaseAddrState (data : BitVec 16) :
    HeaderMatchesTable.Statement (.mfxIndObjBaseAddrState data) := (header16_masked _ _).trans rfl

theorem HeaderMatchesTable.mfxBspBufBaseAddrState (data : BitVec 16) :
    HeaderMatchesTable.Statement (.mfxBspBufBaseAddrState data) := (header16_masked _ _).trans rfl

theorem HeaderMatchesTable.mfx005Unnamed (data : BitVec 16) :
    HeaderMatchesTable.Statement (.mfx005Unnamed data) := (header16_masked _ _).trans rfl

theorem HeaderMatchesTable.mfxStatePointer (data : BitVec 16) :
    HeaderMatchesTable.Statement (.mfxStatePointer data) := (header16_masked _ _).trans rfl

theorem HeaderMatchesTable.mfdItObject (data : BitVec 16) :
    HeaderMatchesTable.Statement (.mfdItObject data) := (header16_masked _ _).trans rfl

theorem HeaderMatchesTable.mfxAvcImgState (data : BitVec 16) :
    HeaderMatchesTable.Statement (.mfxAvcImgState data) := (header16_masked _ _).trans rfl

theorem HeaderMatchesTable.mfxAvcQmState (data : BitVec 16) :
    HeaderMatchesTable.Statement (.mfxAvcQmState data) := (header16_masked _ _).trans rfl

theorem HeaderMatchesTable.mfxAvcDirectmodeState (data : BitVec 16) :
    HeaderMatchesTable.Statement (.mfxAvcDirectmodeState data) := (header16_masked _ _).trans rfl

theorem HeaderMatchesTable.mfxAvcSliceState (data : BitVec 16) :
    HeaderMatchesTable.Statement (.mfxAvcSliceState data) := (header16_masked _ _).trans rfl

theorem HeaderMatchesTable.mfxAvcRefIdxState (data : BitVec 16) :
    HeaderMatchesTable.Statement (.mfxAvcRefIdxState data) := (header16_masked _ _).trans rfl

theorem HeaderMatchesTable.mfxAvcWeightoffsetState (data : BitVec 16) :
    HeaderMatchesTable.Statement (.mfxAvcWeightoffsetState data) := (header16_masked _ _).trans rfl

theorem HeaderMatchesTable.mfdAvcBsdObject (data : BitVec 16) :
    HeaderMatchesTable.Statement (.mfdAvcBsdObject data) := (header16_masked _ _).trans rfl

theorem HeaderMatchesTable.mfcAvcFqmState (data : BitVec 16) :
    HeaderMatchesTable.Statement (.mfcAvcFqmState data) := (header16_masked _ _).trans rfl

theorem HeaderMatchesTable.mfcAvcPakInsertObject (data : BitVec 16) :
    HeaderMatchesTable.Statement (.mfcAvcPakInsertObject data) := (header16_masked _ _).trans rfl

theorem HeaderMatchesTable.mfcAvcPakObject (data : BitVec 16) :
    HeaderMatchesTable.Statement (.mfcAvcPakObject data) := (header16_masked _ _).trans rfl

theorem HeaderMatchesTable.mfxVc1PicState (data : BitVec 16) :
    HeaderMatchesTable.Statement (.mfxVc1PicState data) := (header16_masked _ _).trans rfl

theorem HeaderMatchesTable.mfxVc1PredPipeState (data : BitVec 16) :
    HeaderMatchesTable.Statement (.mfxVc1PredPipeState data) := (header16_masked _ _).trans rfl

theorem HeaderMatchesTable.mfxVc1DirectmodeState (data : BitVec 16) :
    HeaderMatchesTable.Statement (.mfxVc1DirectmodeState data) := (header16_masked _ _).trans rfl

theorem HeaderMatchesTable.mfdVc1BsdObject (data : BitVec 16) :
    HeaderMatchesTable.Statement (.mfdVc1BsdObject data) := (header16_masked _ _).trans rfl

theorem HeaderMatchesTable.mfxMpeg2PicState (data : BitVec 16) :
    HeaderMatchesTable.Statement (.mfxMpeg2PicState data) := (header16_masked _ _).trans rfl

theorem HeaderMatchesTable.mfxMpeg2QmState (data : BitVec 16) :
    HeaderMatchesTable.Statement (.mfxMpeg2QmState data) := (header16_masked _ _).trans rfl

theorem HeaderMatchesTable.mfdMpeg2BsdObject (data : BitVec 16) :
    HeaderMatchesTable.Statement (.mfdMpeg2BsdObject data) := (header16_masked _ _).trans rfl

theorem HeaderMatchesTable.mfxSingleDwUnnamed :
    HeaderMatchesTable.Statement .mfxSingleDwUnnamed := (by decide : (0x68000000#32 &&& 0xFFFFFFFF#32) = 0x68000000#32)

theorem HeaderMatchesTable.mediaSubtype2hUnmapped (data : BitVec 27) :
    HeaderMatchesTable.Statement (.mediaSubtype2hUnmapped data) := headerMedia_masked _

end Sys2Proof.Laws
end

