-- ==== Sys2Proof/Tests/Slice0.lean ====
section
/-! SUPPORT. Tests: ill-formed terms are refused, words written out from the encoding tables decode to their commands,
one step of each command that completes, the vectors of 95_test_vectors.md, and a state that meets the hypotheses of
each statement of the certificate. Expected values come from the spec, by the vector or rule named. -/

namespace Sys2Proof.Tests

open Sys2Proof Sys2Proof.Machine

/-! ## Well-formedness: every check refuses a term -/

def okHeader : LenHeader := ⟨0, 0⟩
def sbaHeader : LenHeader := ⟨0, 8⟩
def noGeneral : SbaGeneral := ⟨0, 0, 0, 0, 0, 0⟩
def noBase : SbaBase := ⟨0, 0, 0, 0⟩
def noBound : SbaBound := ⟨0, 0, 0⟩

theorem test_wf_accepts : (Instr.pipelineSelect 0 2).wellFormed = true ∧
    (Instr.stateBaseAddress sbaHeader noGeneral noBase noBase noBase noBase noBound noBound noBound noBound).wellFormed = true ∧
    (Instr.stateSip okHeader 1 0).wellFormed = true ∧ (Instr.swtessBaseAddress okHeader 1 7 0).wellFormed = true ∧
    (Instr.statePrefetch okHeader 0x3FFFFFF 0 0).wellFormed = true ∧
    (Instr.mediaSubtype2hUnmapped 0x2FFFFFF).wellFormed = true := by decide

theorem test_wf_pipeline_select_reserved_bit : (Instr.pipelineSelect 1 0).wellFormed = false := by decide
theorem test_wf_pipeline_select_reserved_value : (Instr.pipelineSelect 0 3).wellFormed = false := by decide
theorem test_wf_header_reserved_bit : (Instr.stateSip ⟨1, 0⟩ 1 0).wellFormed = false := by decide
theorem test_wf_header_length : (Instr.stateSip ⟨0, 1⟩ 1 0).wellFormed = false := by decide
theorem test_wf_sip_reserved_bit : (Instr.stateSip okHeader 1 8).wellFormed = false := by decide
theorem test_wf_swtess_control_bit_3 : (Instr.swtessBaseAddress okHeader 1 8 0).wellFormed = false := by decide
theorem test_wf_swtess_reserved_bit : (Instr.swtessBaseAddress okHeader 1 0 1).wellFormed = false := by decide
theorem test_wf_swtess_length : (Instr.swtessBaseAddress ⟨0, 1⟩ 1 0 0).wellFormed = false := by decide
theorem test_wf_prefetch_reserved_bit : (Instr.statePrefetch okHeader 1 1 0).wellFormed = false := by decide
theorem test_wf_prefetch_length : (Instr.statePrefetch ⟨0, 2⟩ 1 0 0).wellFormed = false := by decide
theorem test_wf_prefetch_overflow : (Instr.statePrefetch okHeader 0x3FFFFFF 0 1).wellFormed = false := by decide
theorem test_wf_media_opcode : (Instr.mediaSubtype2hUnmapped 0x3000000).wellFormed = false := by decide
theorem test_wf_sba_length : (Instr.stateBaseAddress okHeader noGeneral noBase noBase noBase noBase noBound noBound
    noBound noBound).wellFormed = false := by decide
theorem test_wf_sba_general : (⟨0, 0, 0, 0, 1, 0⟩ : SbaGeneral).wf = false ∧ (⟨0, 8, 0, 0, 0, 1⟩ : SbaGeneral).wf = false ∧
    (⟨0, 0, 8, 0, 0, 1⟩ : SbaGeneral).wf = false := by decide
theorem test_wf_sba_base : (⟨0, 0, 64, 1⟩ : SbaBase).wf = false ∧ (⟨0, 8, 0, 0⟩ : SbaBase).wf = false := by decide
theorem test_wf_sba_bound : (⟨0, 1024, 1⟩ : SbaBound).wf = false := by decide
theorem test_wf_sba_each_dword : [
    Instr.stateBaseAddress sbaHeader ⟨0, 0, 0, 0, 1, 0⟩ noBase noBase noBase noBase noBound noBound noBound noBound,
    .stateBaseAddress sbaHeader noGeneral ⟨0, 0, 1, 0⟩ noBase noBase noBase noBound noBound noBound noBound,
    .stateBaseAddress sbaHeader noGeneral noBase ⟨0, 0, 1, 0⟩ noBase noBase noBound noBound noBound noBound,
    .stateBaseAddress sbaHeader noGeneral noBase noBase ⟨0, 0, 1, 0⟩ noBase noBound noBound noBound noBound,
    .stateBaseAddress sbaHeader noGeneral noBase noBase noBase ⟨0, 0, 1, 0⟩ noBound noBound noBound noBound,
    .stateBaseAddress sbaHeader noGeneral noBase noBase noBase noBase ⟨0, 1, 0⟩ noBound noBound noBound,
    .stateBaseAddress sbaHeader noGeneral noBase noBase noBase noBase noBound ⟨0, 1, 0⟩ noBound noBound,
    .stateBaseAddress sbaHeader noGeneral noBase noBase noBase noBase noBound noBound ⟨0, 1, 0⟩ noBound,
    .stateBaseAddress sbaHeader noGeneral noBase noBase noBase noBase noBound noBound noBound ⟨0, 1, 0⟩].all
      (fun i => !i.wellFormed) = true := by decide

/-! ## Decoding: one word of each command, written out from the encoding tables of 40 to 44, its low operand bits not
all zero. -/

/-- Every word of the list decodes on its parser to the command beside it. -/
def decodesTo (e : Engine) (l : List (Word × Instr)) : Bool := l.all fun p => decide (decode e [p.1] = .ok p.2)

theorem test_decode_mi : decodesTo .render [
    (0x00500003, .miNoop 0x500003), (0x01500003, .miUserInterrupt 0x500003), (0x01D00003, .miWaitForEvent 0x500003),
    (0x02500003, .miOpcode04hUnnamed 0x500003), (0x02D00003, .miArbCheck 0x500003),
    (0x03D00003, .miReportHead 0x500003), (0x04500003, .miArbOnOff 0x500003),
    (0x05500003, .miBatchBufferEnd 0x500003), (0x05D00003, .miSuspendFlush 0x500003),
    (0x06500003, .miPredicate 0x500003), (0x06D00003, .miTopologyFilter 0x500003),
    (0x07500003, .miSetAppid 0x500003), (0x0A500003, .miDisplayFlip 0x500003),
    (0x0B500003, .miSemaphoreMbox 0x500003), (0x0C500003, .miSetContext 0x500003), (0x0D500003, .miMath 0x500003),
    (0x10500003, .miStoreDataImm 0x500003), (0x10D00003, .miStoreDataIndex 0x500003),
    (0x11500003, .miLoadRegisterImm 0x500003), (0x11D00003, .miUpdateGtt 0x500003),
    (0x12500003, .miStoreRegisterMem 0x500003), (0x13500003, .miFlushDw 0x500003), (0x13D00003, .miClflush 0x500003),
    (0x14500003, .miReportPerfCount 0x500003), (0x14D00003, .miLoadRegisterMem 0x500003),
    (0x18D00003, .miBatchBufferStart 0x500003), (0x1B500003, .miConditionalBatchBufferEnd 0x500003)] = true := by decide

theorem test_decode_2d : decodesTo .blitter [
    (0x40600015, .xySetupBlt 0x200015), (0x40E00015, .xySetupClipBlt 0x200015),
    (0x44600015, .xySetupMonoPatternSlBlt 0x200015), (0x49200015, .xyPixelBlt 0x200015),
    (0x49600015, .xyScanlinesBlt 0x200015), (0x49A00015, .xyTextBlt 0x200015),
    (0x4C600015, .xyTextImmediateBlt 0x200015), (0x50200015, .colorBlt 0x200015), (0x50E00015, .srcCopyBlt 0x200015),
    (0x54200015, .xyColorBlt 0x200015), (0x54600015, .xyPatBlt 0x200015), (0x54A00015, .xyMonoPatBlt 0x200015),
    (0x54E00015, .xySrcCopyBlt 0x200015), (0x55200015, .xyMonoSrcCopyBlt 0x200015),
    (0x55600015, .xyFullBlt 0x200015), (0x55A00015, .xyFullMonoSrcBlt 0x200015),
    (0x55E00015, .xyFullMonoPatternBlt 0x200015), (0x56200015, .xyFullMonoPatternMonoSrcBlt 0x200015),
    (0x56600015, .xyMonoPatFixedBlt 0x200015), (0x5C600015, .xyMonoSrcCopyImmediateBlt 0x200015),
    (0x5CA00015, .xyPatBltImmediate 0x200015), (0x5CE00015, .xySrcCopyChromaBlt 0x200015),
    (0x5D200015, .xyFullImmediatePatternBlt 0x200015), (0x5D600015, .xyFullMonoSrcImmediatePatternBlt 0x200015),
    (0x5DA00015, .xyPatChromaBlt 0x200015), (0x5DE00015, .xyPatChromaBltImmediate 0x200015)] = true := by decide

theorem test_decode_3d_low : decodesTo .render [
    (0x61048005, .gpgpuCsrBaseAddress 0x8005), (0x78048005, .state3dClearParams 0x8005),
    (0x78058005, .state3dDepthBuffer 0x8005), (0x78068005, .state3dStencilBuffer 0x8005),
    (0x78078005, .state3dHierDepthBuffer 0x8005), (0x78088005, .state3dVertexBuffers 0x8005),
    (0x78098005, .state3dVertexElements 0x8005), (0x780A8005, .state3dIndexBuffer 0x8005),
    (0x780B8005, .state3dVfStatistics 0x8005), (0x780D8005, .state3dViewportStatePointers 0x8005),
    (0x78108005, .state3dVs 0x8005), (0x78118005, .state3dGs 0x8005), (0x78128005, .state3dClip 0x8005),
    (0x78138005, .state3dSf 0x8005), (0x78148005, .state3dWm 0x8005), (0x78158005, .state3dConstantVs 0x8005),
    (0x78168005, .state3dConstantGs 0x8005), (0x78178005, .state3dConstantPs 0x8005),
    (0x78188005, .state3dSampleMask 0x8005), (0x78198005, .state3dConstantHs 0x8005),
    (0x781A8005, .state3dConstantDs 0x8005), (0x781B8005, .state3dHs 0x8005), (0x781C8005, .state3dTe 0x8005),
    (0x781D8005, .state3dDs 0x8005), (0x781E8005, .state3dStreamout 0x8005), (0x781F8005, .state3dSbe 0x8005),
    (0x78208005, .state3dPs 0x8005), (0x78228005, .state3dViewportStatePointersSfClip 0x8005),
    (0x78238005, .state3dViewportStatePointersCc 0x8005), (0x78248005, .state3dBlendStatePointers 0x8005),
    (0x78258005, .state3dDepthStencilStatePointers 0x8005), (0x78268005, .state3dBindingTablePointersVs 0x8005),
    (0x78278005, .state3dBindingTablePointersHs 0x8005), (0x78288005, .state3dBindingTablePointersDs 0x8005),
    (0x78298005, .state3dBindingTablePointersGs 0x8005), (0x782A8005, .state3dBindingTablePointersPs 0x8005),
    (0x782B8005, .state3dSamplerStatePointersVs 0x8005), (0x782C8005, .state3dSamplerStatePointersHs 0x8005),
    (0x782D8005, .state3dSamplerStatePointersDs 0x8005)] = true := by decide

theorem test_decode_3d_high : decodesTo .render [
    (0x782E8005, .state3dSamplerStatePointersGs 0x8005), (0x78308005, .state3dUrbVs 0x8005),
    (0x78318005, .state3dUrbHs 0x8005), (0x78328005, .state3dUrbDs 0x8005), (0x78338005, .state3dUrbGs 0x8005),
    (0x784C8005, .state3dWmChromaKey 0x8005), (0x784D8005, .state3dPsBlend 0x8005),
    (0x784E8005, .state3dWmDepthStencil 0x8005), (0x784F8005, .state3dPsExtra 0x8005),
    (0x78508005, .state3dRaster 0x8005), (0x78518005, .state3dSbeSwiz 0x8005), (0x78528005, .state3dWmHzOp 0x8005),
    (0x78538005, .state3dInt 0x8005), (0x79008005, .state3dDrawingRectangle 0x8005),
    (0x79028005, .state3dSamplerPaletteLoad0 0x8005), (0x79048005, .state3dChromaKey 0x8005),
    (0x79068005, .state3dPolyStippleOffset 0x8005), (0x79078005, .state3dPolyStipplePattern 0x8005),
    (0x79088005, .state3dLineStipple 0x8005), (0x790A8005, .state3dAaLineParams 0x8005),
    (0x790B8005, .state3dGsSvbIndex 0x8005), (0x790C8005, .state3dSamplerPaletteLoad1 0x8005),
    (0x790D8005, .state3dMultisample 0x8005), (0x790E8005, .state3dStencilBufferNp 0x8005),
    (0x790F8005, .state3dHierDepthBufferNp 0x8005), (0x79108005, .state3dClearParamsNp 0x8005),
    (0x79118005, .state3dMonofilterSize 0x8005), (0x79128005, .state3dPushConstantAllocVs 0x8005),
    (0x79138005, .state3dPushConstantAllocHs 0x8005), (0x79148005, .state3dPushConstantAllocDs 0x8005),
    (0x79158005, .state3dPushConstantAllocGs 0x8005), (0x79168005, .state3dPushConstantAllocPs 0x8005),
    (0x79178005, .state3dSoDeclList 0x8005), (0x79188005, .state3dSoBuffer 0x8005),
    (0x791C8005, .state3dSamplePattern 0x8005), (0x791D8005, .state3dUrbClear 0x8005),
    (0x7A008005, .pipeControl 0x8005), (0x7B008005, .primitive3d 0x8005)] = true := by decide

theorem test_decode_mfx : decodesTo .video [
    (0x70008003, .mfxPipeModeSelect 0x8003), (0x70018003, .mfxSurfaceState 0x8003),
    (0x70028003, .mfxPipeBufAddrState 0x8003), (0x70038003, .mfxIndObjBaseAddrState 0x8003),
    (0x70048003, .mfxBspBufBaseAddrState 0x8003), (0x70058003, .mfx005Unnamed 0x8003),
    (0x70068003, .mfxStatePointer 0x8003), (0x70298003, .mfdItObject 0x8003), (0x71008003, .mfxAvcImgState 0x8003),
    (0x71018003, .mfxAvcQmState 0x8003), (0x71028003, .mfxAvcDirectmodeState 0x8003),
    (0x71038003, .mfxAvcSliceState 0x8003), (0x71048003, .mfxAvcRefIdxState 0x8003),
    (0x71058003, .mfxAvcWeightoffsetState 0x8003), (0x71288003, .mfdAvcBsdObject 0x8003),
    (0x71428003, .mfcAvcFqmState 0x8003), (0x71488003, .mfcAvcPakInsertObject 0x8003),
    (0x71498003, .mfcAvcPakObject 0x8003), (0x72008003, .mfxVc1PicState 0x8003),
    (0x72018003, .mfxVc1PredPipeState 0x8003), (0x72028003, .mfxVc1DirectmodeState 0x8003),
    (0x72288003, .mfdVc1BsdObject 0x8003), (0x73008003, .mfxMpeg2PicState 0x8003),
    (0x73018003, .mfxMpeg2QmState 0x8003), (0x73288003, .mfdMpeg2BsdObject 0x8003)] = true := by decide

theorem test_decode_media : decodesTo .render [(0x70000003, .mediaSubtype2hUnmapped 0x3),
    (0x72800003, .mediaSubtype2hUnmapped 0x2800003)] = true := by decide
theorem test_decode_mfx_single : decodesTo .video [(0x68000000, .mfxSingleDwUnnamed)] = true := by decide
theorem test_decode_pipeline_select : decodesTo .render [(0x69040001, .pipelineSelect 0 1),
    (0x69048007, .pipelineSelect 0x2001 3)] = true := by decide
theorem test_decode_common : decode .render [0x61020000, 0x00001235] = .ok (.stateSip okHeader 0x123 5) ∧
    decode .render [0x61030102, 0x7654AB07] = .ok (.swtessBaseAddress ⟨1, 2⟩ 0x7654A 0xB 7) ∧
    decode .render [0x60030000, 0x0012346F] = .ok (.statePrefetch okHeader 0x48D1 5 7) := by decide
/-- 40_common_commands.md R212, vector V-SBA-1. -/
theorem test_decode_state_base_address :
    decode .render [0x61010008, 0x10000551, 0x20000101, 0x00000000, 0x40000001, 0x50000401, 0x1FFFF001, 0x00000000,
      0x00000001, 0x60000001] =
    .ok (.stateBaseAddress sbaHeader ⟨0x10000, 5, 5, 0, 0, 1⟩ ⟨0x20000, 1, 0, 1⟩ noBase ⟨0x40000, 0, 0, 1⟩
      ⟨0x50000, 4, 0, 1⟩ ⟨0x1FFFF, 0, 1⟩ noBound ⟨0, 0, 1⟩ ⟨0x60000, 0, 1⟩) := by decide
theorem test_decode_bytes : decodeBytes .render [0x02, 0x00, 0x04, 0x69] = .ok (.pipelineSelect 0 2) := by decide

/-- Vectors V-D-5, V-D-10, V-D-13, V-D-15 to V-D-17, V-D-22, V-D-28: no row of a map. -/
theorem test_decode_reserved_opcode : [(Engine.render, (0x04800000 : Word)), (.render, 0x40000000), (.render, 0x60000000),
    (.render, 0x61050000), (.render, 0x62000000), (.render, 0x68000000), (.video, 0x69040001), (.video, 0x72400000),
    (.render, 0x78030000)].all (fun p => decide (decode p.1 [p.2] = .bad .reservedOpcode)) = true := by decide
/-- Vectors V-D-9, V-D-12, V-D-20, V-D-33 to V-D-35. -/
theorem test_decode_reserved_client : [(Engine.render, (0x20000000 : Word)), (.video, 0x40400006), (.blitter, 0x69040001),
    (.render, 0x80000000), (.render, 0xA0000000), (.render, 0xC0000000), (.video, 0xE0000000), (.blitter, 0xE0000000)].all
    (fun p => decide (decode p.1 [p.2] = .bad .reservedClient)) = true ∧
    decode .render [0xE0000000] = .bad .fulsimEncoding := by decide
theorem test_decode_truncated : decode .render [0x61020000] = .bad .truncated := by decide
theorem test_table_word : decodeTableWord 32 0x69040001 = some (.pipelineSelect 0 1) ∧
    decodeTableWord 32 0x70000000 = some (.mfxPipeModeSelect 0) ∧ decodeTableWord 32 0x00800000 = none := by decide
theorem test_encode_state_sip : encode (.stateSip okHeader 0x123 0) = [0x61020000, 0x00001230] := by decide

/-! ## One step -/

/-- The bytes of DWords, little-endian. -/
def bytesOf (l : List Word) : List Byte := l.flatMap bytesOfWord

/-- A ring of one page mapped at 0x1000 whose next command is the given DWords, forty bytes before the tail. -/
def onRing (e : Engine) (l : List Word) : State := State.reset.placeProgram e (bytesOf l)

/-- The state a result answers, where it answers one. -/
def after (r : Result) : Option State :=
  match r with
  | .next t => some t
  | .fault _ => none
  | .refused _ => none

/-- What of the state a result answers. -/
def seen {α : Type} (r : Result) (f : State → α) : Option α := (after r).map f

/-- Whether a result is this refusal. -/
def refusedAs (r : Result) (x : Refusal) : Bool :=
  match r with
  | .refused y => decide (y = x)
  | .next _ => false
  | .fault _ => false

/-- Vectors V-PS-1 to V-PS-3: the value is held and the head moves 4 bytes. -/
theorem test_pipeline_select : ([0, 1, 2] : List (BitVec 2)).all (fun v => decide (
    seen (step (onRing .render [0x69040000 + v.setWidth 32])) (fun t => (t.gpe.pipelineSelect, t.render.ring.head)) =
      some (.holds v, 4))) = true := by decide
/-- Vectors V-PS-4 to V-PS-7. -/
theorem test_pipeline_select_refusals : refusedAs (step (onRing .render [0x69040003])) .reservedValue = true ∧
    ([0x69040004, 0x69040007, 0x69048001] : List Word).all (fun w => refusedAs (step (onRing .render [w])) .nonZeroMbz) =
      true := by decide
/-- Vector V-SBA-1 (40_common_commands.md R212). -/
theorem test_state_base_address : seen (step (onRing .render [0x61010008, 0x10000551, 0x20000101, 0x00000000, 0x40000001,
    0x50000401, 0x1FFFF001, 0x00000000, 0x00000001, 0x60000001])) (fun t => (t.gpe, t.render.ring.head)) =
    some ({ Gpe.reset with
      generalStateBase := .holds 0x10000, generalStateMocs := .holds 5, statelessDataPortMocs := .holds 5
      forceWriteThru := .holds 0, surfaceStateBase := .holds 0x20000, surfaceStateMocs := .holds 1
      indirectObjectBase := .holds 0x40000, indirectObjectMocs := .holds 0, instructionBase := .holds 0x50000
      instructionMocs := .holds 4, generalStateBound := .holds 0x1FFFF, indirectObjectBound := .holds 0
      instructionBound := .holds 0x60000 }, 40) := by decide
/-- Vectors V-SBA-4, V-SBA-5, V-SBA-7 to V-SBA-9. -/
theorem test_state_base_address_refusals :
    refusedAs (step (onRing .render [0x61010008, 0x00000002])) .nonZeroMbz = true ∧
    refusedAs (step (onRing .render [0x61010008, 0x00000801])) .nonZeroMbz = true ∧
    refusedAs (step (onRing .render [0x61010007])) .badLength = true ∧
    refusedAs (step (onRing .render [0x61010108])) .nonZeroMbz = true ∧
    refusedAs (step (onRing .render [0x61010008, 0, 0, 0, 0x40000001, 0, 0, 0, 0x40000001, 0])) .boundNotAboveBase =
      true := by decide
/-- Vectors V-SIP-1, V-SIP-2. -/
theorem test_state_sip : seen (step (onRing .render [0x61020000, 0x00001230])) (fun t => (t.gpe.sip, t.render.ring.head)) =
    some (.holds 0x123, 8) ∧ refusedAs (step (onRing .render [0x61020000, 0x00001234])) .nonZeroMbz = true := by decide
/-- Vectors V-SWT-1 to V-SWT-4. -/
theorem test_swtess_base_address : seen (step (onRing .render [0x61030000, 0x7654A100]))
    (fun t => (t.gpe.swTessBase, t.gpe.swTessMocs)) = some (.holds 0x7654A, .holds 1) ∧
    refusedAs (step (onRing .render [0x61030000, 0x7654A800])) .nonZeroMbz = true ∧
    refusedAs (step (onRing .render [0x61030000, 0x7654A101])) .nonZeroMbz = true ∧
    refusedAs (step (onRing .render [0x61030001])) .badLength = true := by decide
/-- Vectors V-PF-1 to V-PF-4. -/
theorem test_state_prefetch : seen (step (onRing .render [0x60030000, 0x00123447])) (fun t => t.render.ring.head) = some 8 ∧
    refusedAs (step (onRing .render [0x60030000, 0x00000008])) .nonZeroMbz = true ∧
    seen (step (onRing .render [0x60030000, 0xFFFFFFC0])) (fun t => t.render.ring.head) = some 8 ∧
    refusedAs (step (onRing .render [0x60030000, 0xFFFFFFC1])) .addressOverflow = true := by decide
/-- Vectors V-NOP-1 (on each parser), V-NOP-2. -/
theorem test_mi_noop : [Engine.render, .video, .blitter].all (fun e => decide (
    seen (step (onRing e [0])) (fun t => (t.parser e).ring.head) = some 4)) = true ∧
    refusedAs (step (onRing .render [1])) (.bodyNotInSource "MI_NOOP" 1) = true := by decide
/-- Vector V-D-2 and 41_mi_commands.md R235: refused, unless the machine accepts the command (60_exceptions.md R781). -/
theorem test_mi_refused_by_default :
    refusedAs (step (onRing .render [0x01000000])) (.bodyNotInSource "MI_USER_INTERRUPT" 1) = true ∧
    refusedAs (step (onRing .video [0x03800000])) (.bodyNotInSource "MI_REPORT_HEAD" 1) = true := by decide
/-- 60_exceptions.md R784. -/
theorem test_mi_user_interrupt : seen (step { onRing .video [0x01000000] with accepted := ⟨true, false⟩ })
    (fun t => (t.interrupts, t.video.ring.head)) = some ([⟨.video, .user⟩], 4) := by decide
/-- 49_logical_context.md R750: the DWord goes to DWord 4 of the status page, here page 2, mapped to itself. -/
def reportState : State :=
  { onRing .render [0x03800000] with
    accepted := ⟨false, true⟩
    gtt := ⟨.kb512, [(1, ⟨1, false⟩), (2, ⟨2, false⟩)]⟩
    render := { (onRing .render []).render with statusPage := 2 } }
theorem test_mi_report_head : seen (step reportState) (fun t => (t.freeCounter, t.render.ring.head)) = some (1, 4) := by
  decide
theorem test_mi_report_head_stores : seen (step reportState) (fun t => t.phys) =
    some (writePhys reportState.phys [0x2010, 0x2011, 0x2012, 0x2013] (bytesOfWord (Config.headRegisterImage 0))) := rfl

/-- 42_2d_commands.md R308: the blitter never writes memory. -/
theorem test_mi_report_head_blitter :
    refusedAs (step { onRing .blitter [0x03800000] with accepted := ⟨true, true⟩ }) (.bodyNotInSource "MI_REPORT_HEAD" 1) =
      true := by decide

/-- With a pipeline selected on the render parser. -/
def withPipeline (v : SVar 2) (l : List Word) : State :=
  { onRing .render l with gpe := { Gpe.reset with pipelineSelect := v } }

/-- Vectors V-D-3, V-D-4, V-D-6 to V-D-8, V-D-11, V-D-14, V-D-18, V-D-21, V-D-30. -/
theorem test_no_body : [
    (Engine.render, (0x02000000 : Word), Refusal.bodyNotInSource "MI_OPCODE_04h_UNNAMED" 1),
    (.video, 0x02000000, .reservedOpcode), (.blitter, 0x02000000, .reservedOpcode),
    (.render, 0x11000001, .bodyNotInSource "MI_LOAD_REGISTER_IMM" 3),
    (.render, 0x110010D5, .bodyNotInSource "MI_LOAD_REGISTER_IMM" 215),
    (.video, 0x18800000, .bodyNotInSource "MI_BATCH_BUFFER_START" 2),
    (.blitter, 0x40400006, .bodyNotInSource "XY_SETUP_BLT" 8),
    (.render, 0x61040000, .bodyNotInSource "GPGPU_CSR_BASE_ADDRESS" 2),
    (.video, 0x68000000, .bodyNotInSource "MFX_SINGLE_DW_UNNAMED" 1),
    (.video, 0x70000003, .bodyNotInSource "MFX_PIPE_MODE_SELECT" 5),
    (.render, 0x7A000003, .bodyNotInSource "PIPE_CONTROL" 5),
    (.render, 0xE0000000, .fulsimEncoding)].all
      (fun p => refusedAs (step (onRing p.1 [p.2.1])) p.2.2) = true := by decide
/-- Vectors V-D-23 to V-D-27, V-D-29, V-D-31, V-D-32; a media command under GPGPU: 43_3d_commands.md R321, R401. -/
theorem test_pipeline_specific : [
    (SVar.holds (1 : BitVec 2), (0x70000003 : Word), Refusal.bodyNotInSource "MEDIA_SUBTYPE_2H_UNMAPPED" 5),
    (.holds 2, 0x70000003, .bodyNotInSource "MEDIA_SUBTYPE_2H_UNMAPPED" 5), (.holds 0, 0x70000003, .wrongPipeline), (.holds 0, 0x78040000, .bodyNotInSource "3DSTATE_CLEAR_PARAMS" 2),
    (.holds 1, 0x78040000, .wrongPipeline), (.holds 2, 0x78040000, .wrongPipeline), (.unset, 0x78040000, .stateNeverWritten),
    (.holds 0, 0x780B0000, .bodyNotInSource "3DSTATE_VF_STATISTICS" 2),
    (.holds 0, 0x7B000005, .bodyNotInSource "3DPRIMITIVE" 7), (.holds 1, 0x7B000005, .wrongPipeline)].all
      (fun p => refusedAs (step (withPipeline p.1 [p.2.1])) p.2.2) = true := by decide
/-- Vector V-D-36. -/
theorem test_fetch_unmapped : step { onRing .render [0] with gtt := ⟨.kb512, []⟩ } =
    .fault (.gttError 0x1000) := rfl

/-! ## Effective addresses and bounds -/

/-- The variables after V-SBA-1 and V-SIP-1, with the last page below the General State bound mapped. -/
def based : State :=
  { State.reset with
    gpe := { Gpe.reset with
      generalStateBase := .holds 0x10000, generalStateBound := .holds 0x1FFFF, instructionBase := .holds 0x50000
      instructionBound := .holds 0x60000, indirectObjectBase := .holds 0x40000, indirectObjectBound := .holds 0
      surfaceStateBase := .holds 0x20000, sip := .holds 0x123 }
    gtt := ⟨.kb512, [(0x10000, ⟨3, false⟩), (0x1FFFE, ⟨5, false⟩)]⟩
    phys := [(0x3100, 7), (0x5FFE, 9)] }

/-- Vectors V-EA-1, V-EA-5, V-EA-6. -/
theorem test_effective_address : based.gpe.effectiveAddress .general 0x100 = .ok 0x10000100 ∧
    based.gpe.effectiveAddress .general 0xF0000000 = .error .addressOverflow ∧
    based.gpe.systemRoutine = .ok 0x50001230 := by decide
/-- Vectors V-EA-1 to V-EA-4, V-EA-7. -/
theorem test_indirect_read : based.readIndirectByte .general 0x100 = .next 7 ∧
    based.readIndirectByte .general 0x0FFFEFFE = .next 9 ∧
    based.readIndirectByte .dynamicState 0 = .refused .stateNeverWritten := ⟨rfl, rfl, rfl⟩
theorem test_indirect_read_beyond : based.readIndirectByte .general 0x0FFFF000 =
    .next (Config.generalStateUndefinedByte 0 0x1FFFF000) := rfl
/-- Vectors V-EA-3, V-EA-4: the bytes at the bound and beyond are dropped. -/
theorem test_data_port_write : based.dataPortPlan 0x0FFFEFFE [1, 2, 3, 4] = .next [(0x5FFE, 1), (0x5FFF, 2)] := rfl
/-- Vector V-EA-9. -/
theorem test_pte : pteIndex 0x00100040 = 0x100 ∧ pteOffset 0x00100040 = 0x400 := by decide
/-- Vector V-EA-10: the page is listed, the table is too small. -/
theorem test_aperture : (⟨.kb128, [(0x8000, ⟨1, false⟩)]⟩ : PageTable).translate 0x08000000 = none ∧
    (⟨.kb256, [(0x8000, ⟨1, false⟩)]⟩ : PageTable).translate 0x08000004 = some 0x1004 := by decide
/-- MOCS 5: GFDT 1, LLCCC 0, L3CC 1 (40_common_commands.md R200). -/
theorem test_mocs : mocsGfdt 5 = true ∧ mocsLlccc 5 = false ∧ mocsL3cc 5 = true := by decide
/-- 60_exceptions.md R762: AIP takes the IP, the IP takes SIP shifted left by 4. -/
theorem test_exception : seen (step { based with
      threads := [⟨1, 2, 0x40, 0, [], [], [], 0, 0, [], 0, []⟩], schedule := [.euException 0] })
    (fun t => t.threads.map fun u => (u.aip, u.ip)) = some [(0x40, 0x1230)] := by decide

/-! ## Formats -/

/-- Vectors V-CH-1 to V-CH-4. -/
theorem test_normalized : Formats.unorm 8 0x80 = 128 / 255 ∧ Formats.unorm 5 0x10 = 16 / 31 ∧
    Formats.snorm 8 0x40 = 64 / 127 ∧ Formats.snorm 8 0x80 = -1 ∧ Formats.snorm 8 0x81 = -1 ∧
    Formats.snorm 16 0xFFFF = -1 / 32767 := by
  norm_num [Formats.unorm, Formats.snorm, Formats.signed]
/-- Vectors V-CH-5, V-CH-6. -/
theorem test_scaled : Formats.uscaled 3 = 3 ∧ Formats.uscaled 0xFFFFFFFF = 4294967296 ∧ Formats.sscaled 16 0xFFFD = -3 ∧
    Formats.sint 8 0x80 = -128 := by decide +kernel
/-- Vectors V-CH-7 to V-CH-9, V-CH-11, V-CH-12; S4, S5. -/
theorem test_floats : Formats.float32 0xC0400000 = .finite true 3 ∧ Formats.float32 0x7F800000 = .infinity false ∧
    Formats.float64 0x3FF0000000000000 = .finite false 1 ∧ Formats.float16 0x7BFF = .finite false 65504 ∧
    Formats.float16 0x0400 = .finite false (1 / 16384) ∧ Formats.float16 0xFC00 = .infinity true ∧
    Formats.float11 0x7BF = .finite false 65024 ∧ Formats.float10 0x3DF = .finite false 64512 := by decide +kernel
/-- Vector V-CH-10: 65519.99, 65520, 2^-25 and 1.5 * 2^-25 as float32 patterns. -/
theorem test_f32_to_f16 : Formats.f32ToF16 0x477FEFFD = 0x7BFF ∧ Formats.f32ToF16 0x477FF000 = 0x7C00 ∧
    Formats.f32ToF16 0x33000000 = 0x0000 ∧ Formats.f32ToF16 0x33400000 = 0x0001 := by decide
/-- Vector V-CH-13. -/
theorem test_shared_exponent : Formats.r9g9b9e5 0x78000100 = (1 / 2, 0, 0) ∧
    Formats.r9g9b9e5 0xFFFFFFFF = (65408, 65408, 65408) := by decide +kernel
/-- Vector V-CH-15. -/
theorem test_format_name : Formats.readPixel
    [.channel .red 5, .channel .green 5, .type .snorm, .channel .blue 6, .type .unorm] 0xFC1F =
    [(.red, some (.real (-1 / 15))), (.green, some (.real 0)), (.blue, some (.real 1))] := by decide +kernel
/-- Vectors V-CH-19, V-CH-20. -/
theorem test_packed_yuv : Formats.packedYuv .normal 0x10 0x80 0x20 0x90 = (⟨0x10, 0x80, 0x90⟩, ⟨0x20, 0x80, 0x90⟩) ∧
    Formats.packedYuv .swapY 0x10 0x80 0x20 0x90 = (⟨0x80, 0x10, 0x20⟩, ⟨0x90, 0x10, 0x20⟩) := by decide
/-- 45_channel_formats.md R540: Cr to red, Y to green, Cb to blue. -/
theorem test_yuv_channels : (Formats.packedYuv .normal 0x10 0x80 0x20 0x90).1.channels = ⟨0x90, 0x10, 0x80⟩ := by decide
/-- 45_channel_formats.md R516 to R518, R543, R546: I16_FLOAT infinity, L8A8_UNORM, a one-bit texel, RAW, tiled pairs. -/
theorem test_replicated :
    Formats.replicatedTexel [.channel .intensity 16, .type .float] 0x7C00 = some
      ⟨.float (.infinity false), .float (.infinity false), .float (.infinity false), .float (.infinity false)⟩ ∧
    Formats.replicatedTexel [.channel .luminance 8, .channel .alpha 8, .type .unorm] 0xFF00 =
      some ⟨.real 0, .real 0, .real 0, .real 1⟩ ∧
    Formats.oneBitTexel .r1Uint [0x00, 0x02] 9 = ⟨.integer 1, .integer 1, .integer 1, .integer 1⟩ ∧
    Formats.destinationLegal [.channel .luminance 8, .type .unorm] = false ∧ Formats.rawLegal .buffer .untypedRead = true ∧
    Formats.rawLegal .other .untypedRead = false ∧ Formats.pairLegal ⟨64, 0, some 0⟩ ⟨64, 0, some 1⟩ = false := by
  decide +kernel
/-- Vector V-CH-21. -/
theorem test_depth_stencil : Formats.d24UnormS8 0x7FFFFFFF = (1, 0x7F) := by decide +kernel
/-- Texels of a block. -/
def fxt (b : BitVec 128) (l : List Nat) : List (Nat × Nat × Nat × Nat) :=
  l.map fun n => let t := Formats.fxt1Texel b n; (t.a, t.r, t.g, t.b)
/-- Vectors V-FX-1, V-FX-2. -/
theorem test_fxt1_hi_chroma : fxt 0x000FFC00000000000000000000001F98 [0, 1, 2, 3, 4, 31] =
    [(255, 255, 0, 0), (255, 128, 0, 128), (255, 0, 0, 255), (0, 0, 0, 0), (255, 213, 0, 43), (255, 255, 0, 0)] ∧
    fxt 0x48420007C1F07C00C0000000000000E4 [0, 1, 2, 3, 31] =
    [(255, 255, 0, 0), (255, 0, 255, 0), (255, 0, 0, 255), (255, 132, 132, 132), (255, 132, 132, 132)] := by decide
/-- Vectors V-FX-3, V-FX-4. -/
theorem test_fxt1_mixed : fxt 0xC04000803FFF8000000000E4000000E4 [0, 1, 2, 3, 16] =
    [(255, 0, 0, 0), (255, 85, 84, 85), (255, 170, 167, 170), (255, 255, 251, 255), (255, 0, 134, 0)] ∧
    fxt 0xBFFFE00001F07C00000000E4000000E4 [0, 1, 2, 3, 16, 17, 18, 19] =
    [(255, 255, 0, 0), (255, 127, 127, 0), (255, 0, 255, 0), (0, 0, 0, 0), (255, 0, 0, 0), (255, 127, 125, 127),
      (255, 255, 251, 255), (0, 0, 0, 0)] := by decide
/-- Vectors V-FX-5, V-FX-6. -/
theorem test_fxt1_alpha : fxt 0x6043E007C1F07C0000000000000000E4 [0, 1, 2, 3] =
    [(255, 255, 0, 0), (132, 0, 255, 0), (0, 0, 0, 255), (0, 0, 0, 0)] ∧
    fxt 0x7043E007C1F07C00000000E4000000E4 [0, 1, 2, 3, 16, 17, 18, 19] =
    [(255, 255, 0, 0), (214, 170, 85, 0), (173, 85, 170, 0), (132, 0, 255, 0), (0, 0, 0, 255), (44, 0, 85, 170),
      (88, 0, 170, 85), (132, 0, 255, 0)] := by decide
/-- Vectors V-DXT1-1, V-DXT1-2, V-DXT1-4. -/
theorem test_dxt1 : [0, 1, 2, 3].map (Formats.dxt1Texel 0x000000E40000F800 0) =
    [⟨1, 0, 0, 1⟩, ⟨0, 0, 0, 1⟩, ⟨2 / 3, 0, 0, 1⟩, ⟨1 / 3, 0, 0, 1⟩] ∧
    Formats.dxt1Texel 0x000000E4F8000000 0 2 = ⟨1 / 2, 0, 0, 1⟩ ∧
    [2, 3].map (Formats.dxt1RgbTexel 0x000000E4F8000000 0) = [⟨1 / 3, 0, 0, 1⟩, ⟨2 / 3, 0, 0, 1⟩] := by decide +kernel
/-- Vector V-DXT1-2: alpha 0 and the colour the source does not give. -/
theorem test_dxt1_transparent : Formats.dxt1Texel 0x000000E4F8000000 0 3 = Formats.dxt1Transparent := rfl
/-- Vectors V-DXT3-1, V-DXT5-1 to V-DXT5-3. -/
theorem test_dxt_alpha : [0, 1, 2, 3].map (Formats.explicitAlpha 0x000000000000F840 0) = [0, 4 / 15, 8 / 15, 1] ∧
    [0, 1, 2, 3].map (Formats.interpolatedAlpha 0x00000000007A00FF 0) = [6 / 7, 1 / 7, 0, 1] ∧
    [0, 1, 2, 3].map (Formats.interpolatedAlpha 0x000000000BF2FF00 0) = [1 / 5, 0, 1, 4 / 5] ∧
    [0, 1, 2, 3].map (Formats.interpolatedAlpha 0x000000000BF26464 0) = [100 / 255, 0, 1, 100 / 255] := by decide +kernel
/-- Vectors V-BC4-1 to V-BC4-3, V-BC5-1. -/
theorem test_bc4 : [0, 1, 2, 3].map (Formats.bc4Texel .unorm 0x00000000007A00FF 0) = [6 / 7, 1 / 7, 0, 1] ∧
    [0, 1, 2, 3].map (Formats.bc4Texel .unorm 0x000000000BF2FF00 0) = [1 / 5, 0, 1, 4 / 5] ∧
    [0, 1, 2, 3].map (Formats.bc4Texel .snorm 0x000000000BF27F81 0) = [-3 / 5, -1, 1, 3 / 5] ∧
    [0, 1, 2, 3].map (Formats.bc5Texel .unorm 0x000000000BF2FF0000000000007A00FF 0) =
      [(6 / 7, 1 / 5), (1 / 7, 0), (0, 1), (1, 4 / 5)] := by decide +kernel
/-- Red, green and blue of texels of a BC6H block. -/
def bc6h (f : Formats.Bc6hFormat) (b : BitVec 128) (n : Nat) : List (BitVec 16) :=
  [.red, .green, .blue].map (Formats.bc6hTexel f b n)
/-- Vectors V-B6-1, V-B6-2, V-B6-8. -/
theorem test_bc6h_unquantize : [512, 1023, 100, 0].map (Formats.unquantizeUf16 10) = [32800, 0xFFFF, 6432, 0] ∧
    [-511, 256].map (Formats.unquantizeSf16 10) = [-0x7FFF, 16416] ∧ Formats.bc6hFinal .uf16 0xFFFF = 0x7BFF := by decide
/-- Vector V-B6-3. -/
theorem test_bc6h_uf16_one : [0, 1, 2, 3].map (bc6h .uf16 0x00000000000018F000C01FF800000003) =
    [[0, 0, 0], [0x7BFF, 0x3E0F, 0x002E], [0x41DF, 0x20F8, 0x0018], [0x07C0, 0x03E0, 0x0002]] := by decide
/-- Vector V-B6-4. -/
theorem test_bc6h_sf16_one : [0, 1, 2, 3].map (bc6h .sf16 0x00000000000018F0807FF0080000BFE3) =
    [[0x7BFF, 0x005D, 0], [0xFBFF, 0x805D, 0x3E1F], [0x87C0, 0x8005, 0x2100], [0x6C7F, 0x0051, 0x03E1]] := by decide
/-- Vector V-B6-5. -/
theorem test_bc6h_uf16_two : [0, 1, 2, 3].map (bc6h .uf16 0x000000000AFE3F427807E42A58640C80) =
    [[0x0C6C, 0x183A, 0x2392], [0x0BED, 0x1847, 0x2634], [0x0C3D, 0x187C, 0x24F4], [0x0C07, 0x1858, 0x25CB]] := by decide
/-- Vector V-B6-7. -/
theorem test_bc6h_reserved : [0x13, 0x17, 0x1B, 0x1F].all (fun b => decide (bc6h .uf16 b 5 = [0, 0, 0])) = true := by decide
/-- Texels of a BC7 block: red, green, blue, alpha. -/
def bc7 (b : BitVec 128) (l : List Nat) : List (Nat × Nat × Nat × Nat) :=
  l.map fun n => let t := Formats.bc7Texel b n; (t.r, t.g, t.b, t.a)
/-- Vector V-B7-1. -/
theorem test_bc7_endpoint : Formats.bc7Endpoint 0x1F 5 none = 0xFF ∧ Formats.bc7Endpoint 0x10 5 none = 0x84 ∧
    Formats.bc7Endpoint 0x20 6 none = 0x82 ∧ Formats.bc7Endpoint 0x40 7 none = 0x81 ∧
    Formats.bc7Endpoint 0 4 (some 1) = 0x08 := by decide
/-- Vectors V-B7-2 to V-B7-4. -/
theorem test_bc7_texels : bc7 0x00000000000018F17F0003FC081FC040 [0, 1, 2, 3] =
    [(0, 128, 254, 0), (255, 129, 1, 255), (135, 129, 120, 135), (16, 128, 238, 16)] ∧
    bc7 0x0001F00001F1000FC0FFF000FC003F36 [0, 1, 2, 8, 9, 10] =
    [(255, 2, 2, 255), (2, 2, 255, 255), (148, 2, 109, 255), (0, 253, 0, 255), (253, 253, 0, 255), (107, 253, 0, 255)] ∧
    bc7 0x000000300000003803FFF80000007F60 [0, 1, 2] = [(255, 0, 0, 255), (255, 0, 255, 0), (0, 0, 84, 171)] := by decide

/-! ## Layout -/

/-- Vectors V-SL-1 to V-SL-4. -/
theorem test_lod_sizes : (List.range 7).map (Surface.lodSize ⟨4, 2⟩ 100 60) =
    [⟨100, 60⟩, ⟨52, 30⟩, ⟨28, 16⟩, ⟨12, 8⟩, ⟨8, 4⟩, ⟨4, 2⟩, ⟨4, 2⟩] ∧
    (List.range 7).map (Surface.lodOrigin .right (Surface.lodSize ⟨4, 2⟩ 100 60)) =
    [⟨0, 0⟩, ⟨100, 0⟩, ⟨100, 30⟩, ⟨100, 46⟩, ⟨100, 54⟩, ⟨100, 58⟩, ⟨100, 60⟩] ∧
    (List.range 7).map (Surface.lodOrigin .below (Surface.lodSize ⟨4, 2⟩ 100 60)) =
    [⟨0, 0⟩, ⟨0, 60⟩, ⟨52, 60⟩, ⟨52, 76⟩, ⟨52, 84⟩, ⟨52, 88⟩, ⟨52, 90⟩] := by decide
/-- Vectors V-SL-5 to V-SL-10. -/
theorem test_layout : Surface.qpitch .uncompressed .full 60 30 2 = some 114 ∧
    Surface.qpitchWith 11 .uncompressed .full 60 30 2 = some 112 ∧ Surface.qpitch .uncompressed .lod0 60 30 2 = some 60 ∧
    Surface.offset1d 10 ⟨4, none, 4⟩ 32 4 2 3 1 = 220 ∧ Surface.multisampleSize 4 5 3 = some (12, 8) ∧
    Surface.volumeOrigin ⟨4, 2⟩ 16 16 4 0 3 = ⟨0, 48⟩ ∧ Surface.volumeOrigin ⟨4, 2⟩ 16 16 4 1 1 = ⟨8, 64⟩ ∧
    Surface.volumeOrigin ⟨4, 2⟩ 16 16 4 2 0 = ⟨0, 72⟩ ∧ Surface.extended ⟨4, 2⟩ 15 10 = ⟨16, 10⟩ ∧
    Surface.extended ⟨4, 2⟩ 1 1 = ⟨4, 2⟩ ∧ Surface.bufferPaddedBytes 300 12 = 6160 ∧
    Surface.bufferPaddedBytes 256 4 = 1040 := by decide
/-- 48_surface_layout.md R663: with the alignment changed from 4 to 8 at LOD 1, LOD 2 starts after 12 + 8 pixels. R673:
texel (4, 4) of a DXT1 map of pitch p lies p + 8 bytes on. R671: MIPLAYOUT_LEGACY. R682: square cube faces. -/
theorem test_layout_forms : Surface.lodOffset1d 10 ⟨4, some 1, 8⟩ 2 = 20 ∧
    Surface.LayoutFormat.dxt1.linearAddress 0x1000 64 4 4 = 0x1000 + 64 + 8 ∧ Surface.LayoutFormat.fxt1.bytesPerTexel = 1 / 2 ∧
    Surface.LayoutFormat.yuv422.bytesPerTexel = 2 ∧
    Surface.minimumPitch .legacy (Surface.lodSize ⟨4, 2⟩ 100 60) 6 = 100 ∧ Surface.cubeFaceLegal 64 32 = false := by
  decide +kernel
/-- A 6 by 6 DXT1 image with one level, and a texel of it: two by two blocks, a pitch of 32 bytes. -/
def dxtImage (u v : Nat) : Surface.Access :=
  ⟨.samplingEngine, 0x10000FE0, .image ⟨.dxt1, .blockCompressed, .layout .below, 32, 6, 6, 1, 1, .array 1 .full⟩,
    .texel 0 0 u v⟩
/-- 48_surface_layout.md R674, R676, R700, R704: the block of texel (5, 4) is at 32 + 8; texel (6, 4) is padding. -/
theorem test_surface_access :
    ({ based with
      gtt := ⟨.kb512, [(0x10000, ⟨3, false⟩), (0x10001, ⟨4, false⟩)]⟩
      phys := [(0x4008, 7), (0x4009, 1)] } : State).surfaceAccess (dxtImage 5 4) = .next (some ⟨0x107, ⟨1, 0⟩⟩) ∧
    ({ based with gtt := ⟨.kb512, [(0x10000, ⟨3, false⟩), (0x10001, ⟨4, false⟩)]⟩ } : State).surfaceAccess (dxtImage 6 4) =
      .next none ∧
    based.surfaceAccess (dxtImage 0 0) = .fault (.gttError 0x10001000) := ⟨rfl, rfl, rfl⟩
/-- Four structures of 8 bytes at 1000FE0h, of format RAW or not. -/
def structuredAccess (r : Surface.Reader) (raw : Bool) (u v : Nat) : Surface.Access :=
  ⟨r, 0x10000FE0, .structured 4 8 raw, .dword u v⟩
/-- 48_surface_layout.md R662, 45_channel_formats.md R543: the DWord at 8 + 4; index 4 and byte 8 are outside; byte 2 is
misaligned; a format that is not RAW, and the sampling engine, are refused. -/
theorem test_structured_buffer :
    let s : State := { based with gtt := ⟨.kb512, [(0x10000, ⟨3, false⟩)]⟩, phys := [(0x3FEC, 7), (0x3FED, 1)] }
    s.surfaceAccess (structuredAccess (.dataPort false) true 1 4) = .next (some ⟨0x107, ⟨0, 0⟩⟩) ∧
    s.surfaceAccess (structuredAccess (.dataPort false) true 4 4) = .next none ∧
    s.surfaceAccess (structuredAccess (.dataPort false) true 1 8) = .next none ∧
    s.surfaceAccess (structuredAccess (.dataPort false) true 1 2) = .refused .misaligned ∧
    s.surfaceAccess (structuredAccess (.dataPort false) false 1 4) = .refused .surfaceLayoutNotInSource ∧
    s.surfaceAccess (structuredAccess .samplingEngine true 1 4) = .refused .surfaceLayoutNotInSource ∧
    s.surfaceAccess ⟨.dataPort false, 0x10000FE0, .buffer 4 8, .raw 12⟩ = .next (some ⟨0x107, ⟨0, 0⟩⟩) :=
  ⟨rfl, rfl, rfl, rfl, rfl, rfl, rfl⟩
/-- 48_surface_layout.md R704: an 8 by 12 BC4 image with two levels, the second on block rows 3 and 4: block row 5 is read
to make the compressed rows even. R706: an odd row below a render target. -/
theorem test_surface_bottom :
    (Surface.Shape.image ⟨.bc4, .blockCompressed, .layout .below, 32, 8, 12, 2, 1, .array 1 .full⟩).spans .samplingEngine =
      some [⟨0, 16⟩, ⟨32, 16⟩, ⟨64, 16⟩, ⟨96, 8⟩, ⟨128, 8⟩, ⟨160, 16⟩, ⟨192, 0⟩] ∧
    (Surface.Shape.image ⟨.whole 4, .surfaceState 4 2, .layout .below, 32, 3, 1, 1, 1, .array 1 .full⟩).spans
      (.dataPort false) = some [⟨0, 12⟩, ⟨32, 12⟩] := by decide
/-- 48_surface_layout.md R672, R676, R685: the alignment fields of a DXT surface are whole blocks, of one block's height; no
multisampled volume. -/
theorem test_surface_fields : Surface.SurfaceKind.agrees (.surfaceState 8 4) .dxt5 = true ∧
    Surface.SurfaceKind.agrees (.surfaceState 4 2) .dxt1 = false ∧ Surface.SurfaceKind.agrees (.surfaceState 4 8) .dxt1 = false ∧
    (⟨.whole 4, .depthOther, .layout .below, 64, 6, 6, 1, 4, .volume 2⟩ : Surface.Image).layoutGiven = false := by decide
/-- 48_surface_layout.md R666, R672, R685: three samples and FXT1 under the row of BC* are refused, a volume is not read by
its layout mode. -/
theorem test_surface_layout_given :
    (⟨.dxt1, .blockCompressed, .layout .below, 32, 6, 6, 1, 3, .array 1 .full⟩ : Surface.Image).layoutGiven = false ∧
    (⟨.fxt1, .blockCompressed, .layout .below, 32, 6, 6, 1, 1, .array 1 .full⟩ : Surface.Image).layoutGiven = false ∧
    (⟨.fxt1, .fxt1, .legacy, 32, 6, 6, 1, 1, .array 1 .full⟩ : Surface.Image).layoutGiven = false ∧
    (⟨.fxt1, .fxt1, .legacy, 32, 6, 6, 1, 1, .volume 2⟩ : Surface.Image).layoutGiven = true := by decide
/-- 30_encoding.md R258: single DWord below 10h, DW0[5:0] + 2 from there on. -/
theorem test_reserved_length : lengthReservedMi 0x04800007 = 1 ∧ lengthReservedMi 0x1B000007 = 9 := by decide


/-! ## Witnesses: a state and operands that meet the hypotheses of each statement, by the statement's name -/

/-- STATE_SIP with SIP 123h, on a machine that accepts all it may, its ring forty bytes before the tail. -/
def demo : State := { onRing .render [0x61020000, 0x00001230] with accepted := ⟨true, true⟩ }

/-- The demo state with another ring. -/
def demoRing (r : Ring) : State := { demo with render := { demo.render with ring := r } }

theorem witness_DecodeOfEncodeIsTheCommand : (Instr.mediaSubtype2hUnmapped 0x2000000).encodable = true ∧
    (Instr.mediaSubtype2hUnmapped 0x3000000).encodable = false ∧ (Instr.pipelineSelect 1 3).encodable = true := by decide

theorem witness_EncodeOfDecodeIsTheWords : decode .render [0x61020000, 0x00001230] = .ok (.stateSip okHeader 0x123 0) ∧
    decode .video [0x68000000] = .ok .mfxSingleDwUnnamed := by decide

/-- A header of each clause, with the tuples where the clauses meet. -/
theorem witness_CommonCommandSpaceDecodesAsTabled :
    ([0x60020000, 0x60030000, 0x60040000, 0x61000000, 0x61010008, 0x61020000, 0x61030000, 0x61040000, 0x61050000,
      0x67FF0000] : List Word).all (fun w => decide (field w 29 3 = 3 ∧ field w 27 2 = 0)) = true ∧
    ([0x68040000, 0x69030000, 0x69040000, 0x69050000] : List Word).all
      (fun w => decide (field w 29 3 = 3 ∧ field w 27 2 = 1)) = true ∧ 9 ≤ (List.replicate 9 (0 : Word)).length := by decide

theorem witness_OtherClientsAreRejected : field 0xE0000000 29 3 = 7 ∧ field 0x20000000 29 3 = 1 ∧
    field 0x80000000 29 3 = 4 ∧ field 0xA0000000 29 3 = 5 ∧ field 0xC0000000 29 3 = 6 ∧
    (field 0x40000000 29 3 ≠ 0 ∧ field 0x40000000 29 3 ≠ 3) ∧ field 0x60000000 29 3 ≠ 0 ∧ field 0x60000000 29 3 ≠ 2 := by
  decide

theorem witness_StepRunsTheDecodedCommand : demo.schedule = [] ∧ (demo.parser demo.turn).idle = false ∧
    demo.readWord demo.turn (demo.parser demo.turn).pc = .ok 0x61020000 ∧
    demo.readWords demo.turn ((demo.parser demo.turn).pc + 4) (Instr.stateSip okHeader 0x123 0).bodyWords =
      .ok [0x00001230] ∧
    decode demo.turn [0x61020000, 0x00001230] = .ok (.stateSip okHeader 0x123 0) :=
  ⟨rfl, by decide, rfl, rfl, by decide⟩

theorem witness_StepRefusesWhatDoesNotDecode : (onRing .render [0xE0000000]).schedule = [] ∧
    ((onRing .render [0xE0000000]).parser .render).idle = false ∧
    (onRing .render [0xE0000000]).readWord .render ((onRing .render [0xE0000000]).parser .render).pc = .ok 0xE0000000 ∧
    decodeHeader .render 0xE0000000 = .bad .fulsimEncoding := ⟨rfl, by decide, rfl, by decide⟩

theorem witness_FetchFromUnmappedPageFaults : ({ demo with gtt := ⟨.kb512, []⟩ } : State).schedule = [] ∧
    (({ demo with gtt := ⟨.kb512, []⟩ } : State).parser .render).idle = false ∧
    (({ demo with gtt := ⟨.kb512, []⟩ } : State).tableOf .render).translate 0x1000 = none := ⟨rfl, by decide, rfl⟩

theorem witness_IdleParserDoesNotStep : State.reset.schedule = [] ∧ State.reset.render.ring.valid = false ∧
    (demoRing ⟨0x1000, 4096, 40, 40, true⟩).render.bb.active = false ∧
    (demoRing ⟨0x1000, 4096, 40, 40, true⟩).render.ring.head =
      (demoRing ⟨0x1000, 4096, 40, 40, true⟩).render.ring.tail := by decide

/-- One command that completes, one with a body in the ring, one of the video parser. -/
theorem witness_PlacedCommandRunsFirst : decodeTableWord 32 0x69040001 = some (.pipelineSelect 0 1) ∧
    seen (step (State.reset.withFetchWord 32 0x69040001)) (fun t => t.gpe.pipelineSelect) = some (.holds 1) ∧
    decodeTableWord 64 0x0000123061020000 = some (.stateSip okHeader 0x123 0) ∧
    seen (step (State.reset.withFetchWord 64 0x0000123061020000)) (fun t => t.gpe.sip) = some (.holds 0x123) ∧
    decodeTableWord 32 0x70000003 = some (.mfxPipeModeSelect 3) ∧
    refusedAs (step (State.reset.withFetchWord 32 0x70000003)) (.bodyNotInSource "MFX_PIPE_MODE_SELECT" 5) = true := by decide

/-- The hypotheses PIPELINE_SELECT, STATE_SIP, SWTESS_BASE_ADDRESS, STATE_PREFETCH and STATE_BASE_ADDRESS share. -/
theorem witness_render_ready : demo.turn = .render ∧ demo.render.available 1 = true ∧ demo.render.available 2 = true ∧
    demo.render.available 10 = true := by decide

theorem witness_PipelineSelectSelects : demo.turn = .render ∧ demo.render.available 1 = true ∧ (0x2000 : BitVec 14) ≠ 0 ∧
    refusedAs (exec (.pipelineSelect 0x2000 3) demo) .nonZeroMbz = true ∧
    refusedAs (exec (.pipelineSelect 0 3) demo) .reservedValue = true ∧
    seen (exec (.pipelineSelect 0 2) demo) (fun t => t.gpe.pipelineSelect) = some (.holds 2) := by decide

/-- The variables V-SBA-1 leaves from reset meet both bound conditions: 0 disables the first, 60000h is above 50000h. -/
def sbaAfter : Gpe := Gpe.reset.updateBases ⟨0x10000, 5, 5, 0, 0, 1⟩ ⟨0x20000, 1, 0, 1⟩ noBase ⟨0x40000, 0, 0, 1⟩
  ⟨0x50000, 4, 0, 1⟩ ⟨0x1FFFF, 0, 1⟩ noBound ⟨0, 0, 1⟩ ⟨0x60000, 0, 1⟩

theorem witness_StateBaseAddressUpdatesEnabledVariables : demo.turn = .render ∧ demo.render.available 10 = true ∧
    generalMbz ⟨0x10000, 5, 5, 0, 0, 1⟩ = false ∧ baseMbz ⟨0x50000, 4, 0, 1⟩ = false ∧ boundMbz ⟨0x60000, 0, 1⟩ = false ∧
    (∀ b a, sbaAfter.indirectObjectBound = .holds b → sbaAfter.indirectObjectBase = .holds a →
      b = 0 ∨ b = 0xFFFFF ∨ a.toNat < b.toNat) ∧
    (∀ b a, sbaAfter.instructionBound = .holds b → sbaAfter.instructionBase = .holds a → b = 0 ∨ a.toNat < b.toNat) ∧
    seen (exec (.stateBaseAddress sbaHeader ⟨0x10000, 5, 5, 0, 0, 1⟩ ⟨0x20000, 1, 0, 1⟩ noBase ⟨0x40000, 0, 0, 1⟩
      ⟨0x50000, 4, 0, 1⟩ ⟨0x1FFFF, 0, 1⟩ noBound ⟨0, 0, 1⟩ ⟨0x60000, 0, 1⟩) demo) (fun t => t.gpe) = some sbaAfter := by
  refine ⟨by decide, by decide, by decide, by decide, by decide, ?_, ?_, by decide⟩
  · intro b a hb _
    cases hb
    exact .inl rfl
  · intro b a hb ha
    cases hb
    cases ha
    exact .inr (by decide)

/-- V-SBA-9, and the instruction bound equal to its base: both clauses at the boundary. -/
theorem witness_StateBaseAddressRefusesBoundNotAboveBase :
    refusedAs (exec (.stateBaseAddress sbaHeader noGeneral noBase noBase ⟨0x40000, 0, 0, 1⟩ noBase noBound noBound
      ⟨0x40000, 0, 1⟩ noBound) demo) .boundNotAboveBase = true ∧
    refusedAs (exec (.stateBaseAddress sbaHeader noGeneral noBase noBase noBase ⟨0x40000, 0, 0, 1⟩ noBound noBound
      noBound ⟨0x40000, 0, 1⟩) demo) .boundNotAboveBase = true := by decide

/-- A disabled DWord with bits in it, a length other than 8, DW0[15:8], bit 3 of a control state field, a reserved bit. -/
theorem witness_DisabledDWordsOfStateBaseAddress :
    seen (exec (.stateBaseAddress sbaHeader ⟨0xFFFFF, 0, 0, 1, 0, 0⟩ noBase noBase noBase noBase noBound noBound noBound
      noBound) demo) (fun t => t.gpe) = some demo.gpe ∧
    refusedAs (exec (.stateBaseAddress ⟨0, 7⟩ noGeneral noBase noBase noBase noBase noBound noBound noBound noBound) demo)
      .badLength = true ∧
    refusedAs (exec (.stateBaseAddress ⟨0x80, 8⟩ noGeneral noBase noBase noBase noBase noBound noBound noBound noBound)
      demo) .nonZeroMbz = true ∧
    refusedAs (exec (.stateBaseAddress sbaHeader noGeneral noBase noBase noBase ⟨0, 8, 0, 0⟩ noBound noBound noBound
      noBound) demo) .nonZeroMbz = true ∧
    refusedAs (exec (.stateBaseAddress sbaHeader noGeneral noBase noBase noBase noBase noBound noBound noBound
      ⟨0, 1, 0⟩) demo) .nonZeroMbz = true := by decide

theorem witness_StateSipSetsTheSystemPointer : demo.turn = .render ∧ demo.render.available 2 = true ∧
    refusedAs (exec (.stateSip ⟨0, 1⟩ 1 1) demo) .badLength = true ∧
    refusedAs (exec (.stateSip ⟨0x80, 0⟩ 1 0) demo) .nonZeroMbz = true ∧
    refusedAs (exec (.stateSip okHeader 1 8) demo) .nonZeroMbz = true ∧
    seen (exec (.stateSip okHeader 0xFFFFFFF 0) demo) (fun t => t.gpe.sip) = some (.holds 0xFFFFFFF) := by decide

theorem witness_SwtessBaseAddressSetsBaseAndControl : demo.turn = .render ∧ demo.render.available 2 = true ∧
    refusedAs (exec (.swtessBaseAddress ⟨0, 1⟩ 1 0 0) demo) .badLength = true ∧
    refusedAs (exec (.swtessBaseAddress ⟨1, 0⟩ 1 0 0) demo) .nonZeroMbz = true ∧
    refusedAs (exec (.swtessBaseAddress okHeader 1 0 0x80) demo) .nonZeroMbz = true ∧
    refusedAs (exec (.swtessBaseAddress okHeader 1 8 0) demo) .nonZeroMbz = true ∧
    seen (exec (.swtessBaseAddress okHeader 1 7 0) demo) (fun t => t.gpe.swTessMocs) = some (.holds 7) := by decide

theorem witness_StatePrefetchOnlyAdvances : demo.turn = .render ∧ demo.render.available 2 = true ∧
    refusedAs (exec (.statePrefetch ⟨0, 1⟩ 1 0 0) demo) .badLength = true ∧
    refusedAs (exec (.statePrefetch okHeader 1 4 0) demo) .nonZeroMbz = true ∧
    4294967296 < 64 * (0x3FFFFFF : BitVec 26).toNat + 64 * ((1 : BitVec 3).toNat + 1) ∧
    64 * (0x3FFFFFF : BitVec 26).toNat + 64 * ((0 : BitVec 3).toNat + 1) ≤ 4294967296 := by decide

theorem witness_CommonCommandsBelongToTheRenderParser : (onRing .video [0]).turn = .video ∧
    (onRing .blitter [0]).turn = .blitter := by decide

/-- The head at the last DWord of the ring, and the head two DWords before the tail. -/
theorem witness_CommandPastTailIsRefused : demo.render.bb.active = false ∧
    (demoRing ⟨0x1000, 4096, 4092, 2048, true⟩).render.ring.length <
      (demoRing ⟨0x1000, 4096, 4092, 2048, true⟩).render.ring.head + 4 * 2 ∧
    refusedAs (exec (.stateSip okHeader 1 0) (demoRing ⟨0x1000, 4096, 4092, 2048, true⟩)) .commandPastTail = true ∧
    (demoRing ⟨0x1000, 4096, 0, 4, true⟩).render.ring.pending < 4 * 2 ∧
    refusedAs (exec (.statePrefetch okHeader 1 0 0) (demoRing ⟨0x1000, 4096, 0, 4, true⟩)) .commandPastTail = true ∧
    (demoRing ⟨0x1000, 4096, 0, 0, true⟩).render.ring.pending < 4 * 1 ∧
    refusedAs (exec (.miNoop 0) (demoRing ⟨0x1000, 4096, 0, 0, true⟩)) .commandPastTail = true := by decide

/-- Around the end of the ring, and in a batch buffer. -/
theorem witness_HeadAdvancesByTheCommandLength :
    seen (exec (.miNoop 0) (demoRing ⟨0x1000, 4096, 4092, 4, true⟩)) (fun t => t.render.ring.head) = some 0 ∧
    seen (exec (.stateSip okHeader 1 0) { demo with render := { demo.render with bb := ⟨true, 0x2000⟩ } })
      (fun t => (t.render.bb.head, t.render.ring.head)) = some (0x2008, 0) := by decide

theorem demo_parser_wf : demo.render.Wf :=
  ⟨fun _ => ⟨by decide, by decide, by decide, by decide⟩, by decide, rfl⟩

/-- A state in which a command completes meets the invariant. -/
theorem demo_inv : demo.Inv :=
  ⟨demo_parser_wf, ⟨(fun h => nomatch h), by decide, rfl⟩, ⟨(fun h => nomatch h), by decide, rfl⟩,
    ⟨by decide, trivial, trivial, trivial, trivial, trivial, trivial, trivial, rfl⟩, by decide, rfl, rfl, rfl,
    by decide, List.Pairwise.nil, ⟨by decide, by decide, by decide⟩, rfl, by decide⟩

theorem witness_ProgramCounterIsStartPlusHead : demo.render.Wf ∧ demo.render.ring.valid = true ∧
    demo.render.bb.active = false ∧ demo.render.pc = 0x1000 ∧
    ({ demo.render with bb := ⟨true, 0x2000⟩ } : Parser).pc = 0x2000 := ⟨demo_parser_wf, rfl, rfl, by decide, by decide⟩

theorem witness_MiNoopOnlyAdvances : (demo.parser demo.turn).available 1 = true ∧ (0x400000 : BitVec 23) ≠ 0 := by decide

theorem witness_UserInterruptAppendsToTheTrace : (demo.parser demo.turn).available 1 = true ∧
    demo.accepted.userInterrupt = true ∧
    refusedAs (exec (.miUserInterrupt 0x400000) demo) (.bodyNotInSource "MI_USER_INTERRUPT" 1) = true ∧
    State.reset.accepted.userInterrupt = false := by decide

/-- The page mapped, unmapped, and on the live page of the ring; the blitter. -/
theorem witness_ReportHeadStoresOneDWord : (reportState.accepted.reportHead = true ∧ reportState.turn ≠ .blitter ∧
      (reportState.parser reportState.turn).available 1 = true ∧
      (reportState.tableOf reportState.turn).plan (reportState.statusAddress reportState.turn 4) 4 =
        .ok [0x2010, 0x2011, 0x2012, 0x2013] ∧
      reportState.streamModified [0x2010, 0x2011, 0x2012, 0x2013] = false) ∧
    (demo.accepted.reportHead = true ∧ demo.turn ≠ .blitter ∧ (demo.parser demo.turn).available 1 = true ∧
      (demo.tableOf demo.turn).plan (demo.statusAddress demo.turn 4) 4 = .error 0x10) ∧
    ((({ demo with render := { demo.render with statusPage := 1 } } : State).tableOf .render).plan
        (({ demo with render := { demo.render with statusPage := 1 } } : State).statusAddress .render 4) 4 =
        .ok [0x1010, 0x1011, 0x1012, 0x1013] ∧
      ({ demo with render := { demo.render with statusPage := 1 } } : State).streamModified
        [0x1010, 0x1011, 0x1012, 0x1013] = true) ∧
    (onRing .blitter [0]).turn = .blitter := 
    ⟨⟨rfl, by decide, by decide, rfl, by decide⟩, ⟨rfl, by decide, by decide, rfl⟩, ⟨rfl, by decide⟩, rfl⟩

/-- DWord 3 and 1Fh on a mapped page, on an unmapped one; DWords 4, 18h, 1Bh and 20h are not written. -/
theorem witness_DeviceWritesReservedDWords :
    (({ reportState with schedule := [.deviceWriteReserved .render 0x1F] } : State).tableOf .render).plan
      (reportState.statusAddress .render 0x1F) 4 = .ok [0x207C, 0x207D, 0x207E, 0x207F] ∧
    reportState.streamModified [0x207C, 0x207D, 0x207E, 0x207F] = false ∧
    ([3, 0x17, 0x1C] : List Nat).all (fun k => decide (
      seen (step { reportState with schedule := [.deviceWriteReserved .render k] }) (fun t => t.freeCounter) = some 1)) = true ∧
    step { demo with schedule := [.deviceWriteReserved .render 0] } = .fault (.gttError 0) ∧
    ([4, 0x18, 0x1B, 0x20] : List Nat).all (fun k => decide (
      seen (step { reportState with schedule := [.deviceWriteReserved .render k] }) (fun t => t.freeCounter) = some 0)) =
      true := ⟨rfl, by decide, by decide, rfl, by decide⟩

/-- A state whose turn is each parser's: the hypotheses of MiCommandsWithoutABodyStop and CommandsWithoutABodyStop. -/
theorem witness_stops : (onRing .render [0]).turn = .render ∧ (onRing .video [0]).turn = .video ∧
    (onRing .blitter [0]).turn = .blitter ∧ (onRing .blitter [0]).turn ≠ .render ∧ (onRing .blitter [0]).turn ≠ .video := by
  decide

theorem witness_PipelineSpecificCommandsStop : (withPipeline (.holds 0) [0]).turn = .render ∧
    (withPipeline (.holds 0) [0]).gpe.pipelineSelect = .holds 0 ∧
    (withPipeline (.holds 1) [0]).gpe.pipelineSelect = .holds 1 ∧
    (withPipeline (.holds 2) [0]).gpe.pipelineSelect = .holds 2 ∧ (withPipeline .unset [0]).gpe.pipelineSelect = .unset := by
  decide

/-- Each of the eight commands that complete does so in some state: the hypothesis of CommandsLeaveOtherStateAlone,
StateVariablesAreWrittenOnlyByTheirCommands and OnlyReportHeadStores. -/
theorem witness_frames :
    [Instr.pipelineSelect 0 1, .stateSip okHeader 1 0, .swtessBaseAddress okHeader 1 0 0, .statePrefetch okHeader 1 0 0,
      .stateBaseAddress sbaHeader noGeneral noBase noBase noBase noBase noBound noBound noBound noBound, .miNoop 0,
      .miUserInterrupt 0].all (fun i => (after (exec i demo)).isSome) = true ∧
    (after (exec (.miReportHead 0) reportState)).isSome = true ∧
    ((onRing .render [0]).accepted = ⟨false, false⟩ ∧ (after (exec (.miNoop 0) (onRing .render [0]))).isSome = true) := by
  decide

theorem witness_StoredBytesReadBack : seen (based.storeGfx .global 0x1FFFEFFE [1, 2]) (fun t => t.phys) =
      some [(0x3100, 7), (0x5FFE, 1), (0x5FFF, 2)] ∧
    (based.tableById .global).plan 0x1FFFEFFE 2 = .ok [0x5FFE, 0x5FFF] ∧ [0x5FFE, 0x5FFF].Nodup :=
  ⟨by decide, rfl, by decide⟩

/-- A thread about to take an exception. -/
def thread : EuThread := ⟨1, 2, 0x40, 0, [], [], [], 0, 0, [], 0, []⟩

/-- The last address below 2^32 and the first above, a base unset, and no thread in the slot. -/
theorem witness_ExceptionEntersTheSystemRoutine :
    seen (step { based with
      gpe := { based.gpe with instructionBase := .holds 0xFFFFF, sip := .holds 0xFF }
      threads := [thread], schedule := [.euException 0] }) (fun t => t.threads.map fun u => (u.aip, u.ip)) =
      some [(0x40, 0xFF0)] ∧
    refusedAs (step { based with
      gpe := { based.gpe with instructionBase := .holds 0xFFFFF, sip := .holds 0x100 }
      threads := [thread], schedule := [.euException 0] }) .addressOverflow = true ∧
    refusedAs (step { State.reset with threads := [thread], schedule := [.euException 0] }) .stateNeverWritten = true ∧
    seen (step { State.reset with threads := [thread], schedule := [.euException 1] }) (fun t => t.threads) =
      some [thread] := by decide

/-- The longest ring; a head and a tail beyond the length; a length of 0, one that is no multiple of 4 and one too long; a
start off its page. A tail
at the end of a ring, at its length, off a DWord, and of a ring that is not programmed. -/
theorem witness_HostProgramsARing :
    seen (step { demo with schedule := [.hostProgramRing .video 0x3000 2097152 2097148 0] })
      (fun t => (t.video.ring, t.hidden.vcsDmaHead)) = some (⟨0x3000, 2097152, 2097148, 0, true⟩, 2097148) ∧
    seen (step { demo with schedule := [.hostProgramRing .video 0x3000 64 64 128] }) (fun t => t.video.ring) =
      some ⟨0x3000, 64, 64, 128, true⟩ ∧
    ([.hostProgramRing .video 0x3000 0 0 0, .hostProgramRing .video 0x3000 4098 0 0] : List Event).map
        (fun e => seen (step { demo with schedule := [e] }) fun t => t.video.ring.length) = [some 0, some 4098] ∧
    refusedAs (step { demo with schedule := [.hostProgramRing .video 0x3000 2097153 0 0] }) .ringParametersIllegal = true ∧
    refusedAs (step { demo with schedule := [.hostProgramRing .video 0x3004 64 0 0] }) .misaligned = true ∧
    seen (step { demo with schedule := [.hostWriteTail .render 4092] }) (fun t => t.render.ring.tail) = some 4092 ∧
    seen (step { demo with schedule := [.hostWriteTail .render 4096] }) (fun t => t.render.ring.tail) = some 4096 ∧
    refusedAs (step { demo with schedule := [.hostWriteTail .render 2] }) .misaligned = true ∧
    seen (step { demo with schedule := [.hostWriteTail .video 64] }) (fun t => (t.video.ring.tail, t.hidden.vcsDmaTail)) =
      some (64, 64) := by decide

/-- A line asked for, up to the tail; the DMA at the tail; the page of the ring unmapped. -/
theorem witness_VcsDmaFetchesALine :
    seen (step { onRing .video [0] with
      hidden := { Hidden.reset with vcsDmaTail := 40 }, schedule := [.vcsDmaRequest] })
      (fun t => (t.hidden.vcsDmaHead, t.hidden.vcsFifo.map fun x => (x.offset, x.bytes.length))) = some (40, [(0, 64)]) ∧
    seen (step { onRing .video [0] with schedule := [.vcsDmaRequest] }) (fun t => t.hidden) = some Hidden.reset ∧
    step { onRing .video [0] with
      gtt := ⟨.kb512, []⟩, hidden := { Hidden.reset with vcsDmaTail := 40 }, schedule := [.vcsDmaRequest] } =
      .fault (.gttError 0x1000) := ⟨by decide, by decide, rfl⟩

theorem witness_HostRegisterWritesAreStorage :
    seen (step { demo with schedule := [.hostWriteReg 0x2040 7] }) (fun t => (t.readReg 0x2040, t.readReg 0x2044)) =
      some (7, 0) ∧
    ([0x2030, 0x2034, 0x2038, 0x203C] : List Nat).all (fun o =>
      refusedAs (step { demo with schedule := [.hostWriteReg o 7] }) .registerLayoutNotInSource) = true ∧
    refusedAs (step { demo with schedule := [.hostWriteReg 0x2042 7] }) .misaligned = true ∧
    NamedReg.hwsPga.isRingPointer = false ∧ NamedReg.vcsRingHead.isRingPointer = true ∧
    (NamedReg.gpmData 106).isRingPointer = false := by decide

/-- The last page of the aperture and the first beyond it. -/
theorem witness_HostMapsAPage : pteIndex 0x1FFFF123 < (demo.tableById .global).size.entries ∧
    pteIndex 0x1FFFF000 = pteIndex 0x1FFFF123 ∧ (demo.tableById .global).size.entries ≤ pteIndex 0x20000000 ∧
    seen (step { demo with schedule := [.hostMapPage .global 0x1FFFF123 ⟨6, false⟩] })
      (fun t => (t.tableById .global).translate 0x1FFFFFFF) = some (some 0x6FFF) := by decide

theorem witness_HostMemoryWritesLand : demo.streamModified (List.range' 0x1028 2) = false ∧
    seen (step { demo with schedule := [.hostWriteMem .phys 0x1028 [5, 6]] })
      (fun t => (readPhys t.phys 0x1028, readPhys t.phys 0x1029)) = some (5, 6) ∧
    (demo.tableById .global).plan (BitVec.ofNat 32 0x1FFE) 2 = .ok [0x1FFE, 0x1FFF] ∧
    demo.streamModified [0x1FFE, 0x1FFF] = false ∧
    (demo.tableById .global).plan (BitVec.ofNat 32 0x1FFF) 2 = .error 0x2000 := ⟨by decide, by decide, rfl, by decide, rfl⟩

/-- A byte of the page, the bytes across its end, and a register at an offset that is a DWord and one that is not. -/
theorem witness_HostReadsObserve : seen (step { demo with schedule := [.hostReadMem .phys 0 4] }) (fun t => t.phys) =
      some demo.phys ∧
    (demo.tableById .global).plan (BitVec.ofNat 32 0x1FFF) 1 = .ok [0x1FFF] ∧
    step { demo with schedule := [.hostReadMem (.gfx .global) 0x1FFF 2] } = .fault (.gttError 0x2000) ∧
    seen (step { demo with schedule := [.hostReadReg 0x2040] }) (fun t => t.mmio) = some demo.mmio ∧
    refusedAs (step { demo with schedule := [.hostReadReg 0x2041] }) .misaligned = true :=
  ⟨by decide, rfl, rfl, by decide, by decide⟩

/-- Each event, and the size the global table cannot have. -/
theorem witness_EventsThatChoose :
    seen (step { demo with turn := .blitter, schedule := [.runParser .render] }) (fun t => (t.turn, t.render.ring.head)) =
      some (.render, 8) ∧
    seen (step { demo with schedule := [.setTable .video .perProcess] }) (fun t => t.video.table) = some .perProcess ∧
    seen (step { demo with schedule := [.setStatusPage .video 5] }) (fun t => t.video.statusPage) = some 5 ∧
    seen (step { demo with schedule := [.hostSetTableSize .global .kb128] }) (fun t => t.gtt.size) = some .kb128 ∧
    refusedAs (step { demo with schedule := [.hostSetTableSize .global .kb64] }) .tableSizeIllegal = true ∧
    seen (step { demo with schedule := [.hostSetTableSize (.perProcess .video) .kb64] }) (fun t => t.video.ppgtt.size) =
      some .kb64 := by decide

/-- The sixteenth and the seventeenth mask of a stack; a URB entry; lines with and without GFDT. -/
theorem witness_OnChipEvents :
    seen (step { demo with threads := [{ thread with maskStack := List.replicate 15 7 }], schedule := [.pushMask 0 9] })
      (fun t => t.threads.map fun u => (u.maskOnChip.length, u.maskInScratch)) = some [(16, [])] ∧
    seen (step { demo with threads := [{ thread with maskStack := List.replicate 16 7 }], schedule := [.pushMask 0 9] })
      (fun t => t.threads.map fun u => (u.maskOnChip.length, u.maskInScratch)) = some [(16, [9])] ∧
    seen (step { demo with threads := [{ thread with maskStack := [7, 9] }], schedule := [.popMask 0] })
      (fun t => t.threads.map EuThread.maskStack) = some [[7]] ∧
    seen (step { demo with schedule := [.urbWrite 3 ⟨.vertex, [5]⟩] }) (fun t => (t.urbEntry 3, t.urbEntry 4)) =
      some (some ⟨.vertex, [5]⟩, none) ∧
    seen (step { demo with
      hidden := { Hidden.reset with llc := [⟨1, true⟩, ⟨2, false⟩] }, schedule := [.cache .flushLlcGfdt] })
      (fun t => t.hidden.llc) = some [⟨2, false⟩] ∧
    seen (step { demo with hidden := { Hidden.reset with texture := [4] }, schedule := [.cache (.fill .texture 5)] })
      (fun t => t.hidden.texture.length) = some 2 ∧
    seen (step { demo with hidden := { Hidden.reset with texture := [4] }, schedule := [.cache (.empty .texture)] })
      (fun t => t.hidden.texture) = some [] ∧
    seen (step { demo with hidden := { Hidden.reset with llc := [⟨1, true⟩] }, schedule := [.cache (.fillLlc ⟨1, false⟩)] })
      (fun t => t.hidden.llc) = some [⟨1, false⟩] ∧
    seen (step { demo with hidden := { Hidden.reset with vertex := [⟨1, 4⟩] }, schedule := [.cache (.fillVertex ⟨2, 5⟩)] })
      (fun t => t.hidden.vertex) = some [⟨1, 4⟩, ⟨2, 5⟩] := by decide

/-- The last live byte before the tail, as the last byte of a write, physical and through the table; the byte after it is
the witness of HostMemoryWritesLand. With the tail before the head, the last byte of the ring. -/
theorem witness_LiveCommandStreamIsProtected : demo.render.ring.valid = true ∧
    demo.render.ring.head ≤ 39 ∧ 39 < demo.render.ring.tail ∧
    (demo.tableOf .render).translate (demo.render.ring.start + BitVec.ofNat 32 39) = some 0x1027 ∧
    refusedAs (step { demo with schedule := [.hostWriteMem .phys 0x1027 [5]] }) .commandStreamModified = true ∧
    (demo.tableById .global).plan (BitVec.ofNat 32 0x1027) 2 = .ok [0x1027, 0x1028] ∧
    refusedAs (step { demo with schedule := [.hostWriteMem (.gfx .global) 0x1027 [5, 6]] }) .commandStreamModified = true ∧
    refusedAs (step { demoRing ⟨0x1000, 4096, 4092, 4, true⟩ with schedule := [.hostWriteMem .phys 0x1FFF [5]] })
      .commandStreamModified = true ∧
    seen (step { demoRing ⟨0x1000, 4096, 4092, 4, true⟩ with schedule := [.hostWriteMem .phys 0x1004 [5]] })
      (fun t => t.render.ring.tail) = some 4 :=
  ⟨rfl, by decide, by decide, by decide, by decide, rfl, by decide, by decide, by decide⟩

/-- A second thread of an EU; the same slot again; the last thread of an EU and one too many; an EU too many; the first of
two threads ends; no thread in the slot. -/
theorem witness_SpawnFillsAndEndFreesASlot :
    seen (step { demo with threads := [thread, { thread with tid := 3 }], schedule := [.endThread 0] })
      (fun t => t.threads) = some [{ thread with tid := 3 }] ∧
    seen (step { demo with threads := [thread], schedule := [.endThread 1] }) (fun t => t.threads) = some [thread] ∧
    seen (step { demo with threads := [thread], schedule := [.spawnThread { thread with tid := 3 }] })
      (fun t => t.threads.length) = some 2 ∧
    seen (step { demo with threads := [thread], schedule := [.spawnThread { thread with ip := 3 }] })
      (fun t => t.threads) = some [thread] ∧
    (demo.variant.numEus, demo.variant.threadsPerEu) = (16, 8) ∧
    ([7, 8] : List Nat).map (fun n => seen (step { demo with
      threads := (List.range n).map fun k => { thread with tid := k }
      schedule := [.spawnThread { thread with tid := 7 }] }) (fun t => t.threads.length)) = [some 8, some 8] ∧
    ([5, 6] : List Nat).map (fun n => seen (step { demo with
      variant := .small
      threads := (List.range n).map fun k => { thread with euid := BitVec.ofNat 4 k }
      schedule := [.spawnThread { thread with euid := 9 }] }) (fun t => t.threads.length)) = [some 6, some 6] := by decide

theorem witness_EffectiveAddressIsBasePlusOffset : based.gpe.base .general = .holds 0x10000 ∧
    (0x10000 : BitVec 20).toNat * 2 ^ 12 + 0xEFFFFFFF < 2 ^ 32 ∧
    2 ^ 32 ≤ (0x10000 : BitVec 20).toNat * 2 ^ 12 + 0xF0000000 := by decide

/-- The first address at each bound. -/
theorem witness_ReadsBeyondABound :
    (based.gpe.base .general = .holds 0x10000 ∧ based.gpe.bound .general = some (.holds 0x1FFFF) ∧
      0x10000 * 4096 + 0xFFFF000 = 0x1FFFF * 4096) ∧
    (based.gpe.base .instruction = .holds 0x50000 ∧ based.gpe.bound .instruction = some (.holds 0x60000) ∧
      0x50000 * 4096 + 0x10000000 = 0x60000 * 4096) ∧
    (({ based.gpe with indirectObjectBound := .holds 0x40001 } : Gpe).bound .indirectObject = some (.holds 0x40001) ∧
      0x40000 * 4096 + 0x1000 = 0x40001 * 4096) ∧
    (({ based.gpe with dynamicStateBase := .holds 1, dynamicStateBound := .holds 2 } : Gpe).bound .dynamicState =
      some (.holds 2) ∧ 1 * 4096 + 0x1000 = 2 * 4096) := by decide

/-- The last address below a bound, a bound of 0, and Surface State, which has no bound. -/
theorem witness_ReadsBelowABound : based.gpe.base .general = .holds 0x10000 ∧
    based.gpe.bound .general = some (.holds 0x1FFFF) ∧ 0x10000 * 4096 + 0xFFFEFFF < 0x1FFFF * 4096 ∧
    based.readGfx (based.tableIdOf .render) (BitVec.ofNat 32 (0x10000 * 4096 + 0xFFFEFFF)) = some 0 ∧
    based.gpe.bound .indirectObject = some (.holds 0) ∧ based.gpe.base .surface = .holds 0x20000 ∧
    based.readGfx (based.tableIdOf .render) 0x20000000 = none := by decide

/-- Across the bound, from the bound on, from a thread's scratch space; the page below the bound unmapped; a live byte. -/
theorem witness_WritesBeyondTheGeneralBoundAreDropped : based.gpe.generalStateBase = .holds 0x10000 ∧
    based.gpe.generalStateBound = .holds 0x1FFFF ∧
    min [(1 : Byte), 2, 3].length ((0x1FFFF : BitVec 20).toNat * 4096 - ((0x10000 : BitVec 20).toNat * 4096 + 0x0FFFEFFE)) = 2 ∧
    (based.tableOf .render).plan (BitVec.ofNat 32 0x1FFFEFFE) 2 = .ok [0x5FFE, 0x5FFF] ∧
    seen (step { based with schedule := [.dataPortWrite 0x0FFFEFFE [1, 2, 3]] }) (fun t => t.phys) =
      some [(0x3100, 7), (0x5FFE, 1), (0x5FFF, 2)] ∧
    seen (step { based with schedule := [.dataPortWrite 0x0FFFF000 [1, 2]] }) (fun t => t.phys) = some based.phys ∧
    seen (step { based with
      threads := [{ thread with scratchOffset := 0x100 }], schedule := [.scratchWrite 0 1 [8]] }) (fun t => t.phys) =
      some [(0x3100, 7), (0x3101, 8), (0x5FFE, 9)] ∧
    step { based with schedule := [.dataPortWrite 0x1000 [1]] } = .fault (.gttError 0x10001000) ∧
    (onRing .render [0]).streamModified [0x1000] = true :=
  ⟨rfl, rfl, by decide, rfl, by decide, by decide, by decide, rfl, by decide⟩

theorem witness_StepKeepsTheInvariant : demo.Inv ∧ ∃ t, step demo = .next t :=
  ⟨demo_inv, _, rfl⟩

theorem witness_ReachableStatesAreWellKept : demo.Inv ∧ ∃ t, Reachable demo t ∧ t.render.ring.head = 8 :=
  ⟨demo_inv, _, .step .refl rfl, rfl⟩

/-- V-B6-3: both endpoints of every texel and channel in the precision of the mode. -/
theorem witness_Bc6hUnsignedNeverLeavesTheFinite :
    (Formats.bc6hMode 0x00000000000018F000C01FF800000003).any (fun m =>
      Formats.inPrecision .uf16 m.precision (Formats.bc6hEndpoint .uf16 m 0x00000000000018F000C01FF800000003 .red
        (m.ends 0x00000000000018F000C01FF800000003 1).1) &&
      Formats.inPrecision .uf16 m.precision (Formats.bc6hEndpoint .uf16 m 0x00000000000018F000C01FF800000003 .red
        (m.ends 0x00000000000018F000C01FF800000003 1).2)) = true ∧
    Formats.bc6hTexel .uf16 0x00000000000018F000C01FF800000003 1 .red = 0x7BFF := by decide

/-- Texel [0][0] of code 2 in the first mode; texels [0][1] and [0][2] of codes 6 and 7 in the second (47_bc4_bc7.md R600). -/
theorem witness_Bc4InterpolatesBetweenItsColors :
    bitsOf 0x00000000007A00FF#64 15 8 < bitsOf 0x00000000007A00FF#64 7 0 ∧ Formats.code3 0x00000000007A00FF 0 0 = 2 ∧
    bitsOf 0x000000000BF2FF00#64 7 0 ≤ bitsOf 0x000000000BF2FF00#64 15 8 ∧
    [1, 2].map (Formats.code3 0x000000000BF2FF00 0) = [6, 7] := by decide

theorem witness_Bc7ReservedModeIsBlack : (0x100 : BitVec 128).extractLsb' 0 8 = 0 := by decide

theorem witness_PaddedSizeIsTheLeastMultiple : 0 < 4 ∧ 52 % 4 = 0 ∧ 50 ≤ 52 ∧ Surface.roundUp 50 4 = 52 := by decide

/-- Every byte of the extended surface mapped; the padding block in an unmapped page; a texel in the padding. -/
theorem witness_SurfaceAccessReadsTheExtendedSurface :
    (dxtImage 0 0).touched = some [⟨0, 16⟩, ⟨32, 16⟩, ⟨64, 0⟩, ⟨0, 8⟩] ∧
    (dxtImage 6 4).shape.inside (dxtImage 6 4).coordinate = false ∧
    seen (step { based with
      gtt := ⟨.kb512, [(0x10000, ⟨3, false⟩), (0x10001, ⟨4, false⟩)]⟩, schedule := [.surfaceAccess (dxtImage 0 0)] })
      (fun t => t.phys) = some based.phys ∧
    step { based with schedule := [.surfaceAccess (dxtImage 0 0)] } = .fault (.gttError 0x10001000) :=
  ⟨by decide, by decide, by decide, rfl⟩

end Sys2Proof.Tests
end

section
/-! The invariant of `Sys2Proof.Machine.State.Inv` is kept by every step: one lemma per part of the state that an operation
replaces, then one per command that completes and per event, then the step (10_state.md R41, R42, R48, R50, R73). -/

namespace Sys2Proof.Machine

/-! ## Rings and parsers -/

/-- `4 * n` bytes further on, around a ring that holds them all, is a DWord boundary again. -/
theorem headAligned_advance {head length n : Nat} (ha : head % 4 = 0) (hl : head + 4 * n ≤ length) :
    (head + 4 * n) % length % 4 = 0 := by
  rcases Nat.lt_or_eq_of_le hl with hlt | heq
  · rw [Nat.mod_eq_of_lt hlt]; omega
  · rw [heq, Nat.mod_self]

/-- A DWord address stays one when DWords are added, whether or not the sum wraps. -/
theorem dwordAligned_add {a b : GraphicsAddress} (ha : a.toNat % 4 = 0) (hb : b.toNat % 4 = 0) :
    (a + b).toNat % 4 = 0 := by
  rw [BitVec.toNat_add]; omega

theorem dwordAligned_ofNat {n : Nat} (h : n % 4 = 0) : (BitVec.ofNat 32 n).toNat % 4 = 0 := by
  rw [BitVec.toNat_ofNat]; omega

theorem Parser.available_iff {p : Parser} {n : Nat} :
    p.available n = true ↔
      p.bb.active = true ∨ (p.ring.head + 4 * n ≤ p.ring.length ∧ 4 * n ≤ p.ring.pending) := by
  simp [Parser.available]

theorem Parser.advance_of_active {p : Parser} (n : Nat) (h : p.bb.active = true) :
    p.advance n = { p with bb := { p.bb with head := p.bb.head + BitVec.ofNat 32 (4 * n) } } := if_pos h

theorem Parser.advance_of_inactive {p : Parser} (n : Nat) (h : p.bb.active = false) :
    p.advance n = { p with ring := { p.ring with head := (p.ring.head + 4 * n) % p.ring.length } } :=
  if_neg (by simp [h])

/-- A parser moves past a command it has wholly before its tail and stays well kept. -/
theorem Parser.Wf.advance {p : Parser} (hp : p.Wf) {n : Nat} (ha : p.available n = true) : (p.advance n).Wf := by
  cases hb : p.bb.active with
  | true =>
    rw [p.advance_of_active n hb]
    exact { hp with bbHead := dwordAligned_add hp.bbHead (dwordAligned_ofNat (by omega)) }
  | false =>
    rw [p.advance_of_inactive n hb]
    obtain ⟨hend, -⟩ : p.ring.head + 4 * n ≤ p.ring.length ∧ 4 * n ≤ p.ring.pending := by
      simpa [Parser.available_iff, hb] using ha
    exact { hp with ring := fun hv =>
      { hp.ring hv with headAligned := headAligned_advance (hp.ring hv).headAligned hend } }

/-- The start of a programmed ring is a DWord address: it is a 4 KB one. -/
theorem Ring.Wf.startAligned {r : Ring} (h : r.Wf) : r.start.toNat % 4 = 0 := by
  have := h.start
  simp only [Config.pageSize] at this
  omega

theorem Parser.pc_of_inactive {p : Parser} (h : p.bb.active = false) :
    p.pc = p.ring.start + BitVec.ofNat 32 p.ring.head := if_neg (by simp [h])

theorem Parser.pc_of_active {p : Parser} (h : p.bb.active = true) : p.pc = p.bb.head := if_pos h

theorem Parser.Wf.pc_aligned {p : Parser} (hp : p.Wf) (hv : p.ring.valid = true) : p.pc.toNat % 4 = 0 := by
  cases hb : p.bb.active with
  | true => rw [p.pc_of_active hb]; exact hp.bbHead
  | false =>
    rw [p.pc_of_inactive hb]
    exact dwordAligned_add (hp.ring hv).startAligned (dwordAligned_ofNat (hp.ring hv).headAligned)

/-! ## State variables -/

/-- A control state variable stays legal under an update whose value has no reserved bit. -/
theorem SVar.mocsLegal_modify {m : SVar 4} {v : BitVec 4} (hm : m.mocsLegal) (e : BitVec 1)
    (hv : mocsReserved v = false) : (m.modify e v).mocsLegal := by
  unfold SVar.modify
  split
  · exact hv
  · exact hm

theorem generalMbz_eq_false {d : SbaGeneral} (h : generalMbz d = false) :
    mocsReserved d.mocs = false ∧ mocsReserved d.dataPortMocs = false := by
  simp only [generalMbz, Bool.or_eq_false_iff] at h
  exact ⟨h.1.2, h.2⟩

theorem baseMbz_eq_false {d : SbaBase} (h : baseMbz d = false) : mocsReserved d.mocs = false := by
  simp only [baseMbz, Bool.or_eq_false_iff] at h
  exact h.2

/-- STATE_BASE_ADDRESS keeps the variables legal: its reserved bits are zero and its bound checks pass. -/
theorem Gpe.Wf.updateBases {v : Gpe} (hv : v.Wf) {g : SbaGeneral} {sf dy ind ins : SbaBase} {gb db ib nb : SbaBound}
    (hg : generalMbz g = false) (hsf : baseMbz sf = false) (hdy : baseMbz dy = false) (hind : baseMbz ind = false)
    (hins : baseMbz ins = false) (hb : (v.updateBases g sf dy ind ins gb db ib nb).boundsViolated = false) :
    (v.updateBases g sf dy ind ins gb db ib nb).Wf where
  pipeline := hv.pipeline
  general := SVar.mocsLegal_modify hv.general _ (generalMbz_eq_false hg).1
  dataPort := SVar.mocsLegal_modify hv.dataPort _ (generalMbz_eq_false hg).2
  surface := SVar.mocsLegal_modify hv.surface _ (baseMbz_eq_false hsf)
  dynamicState := SVar.mocsLegal_modify hv.dynamicState _ (baseMbz_eq_false hdy)
  indirectObject := SVar.mocsLegal_modify hv.indirectObject _ (baseMbz_eq_false hind)
  instruction := SVar.mocsLegal_modify hv.instruction _ (baseMbz_eq_false hins)
  swTess := hv.swTess
  bounds := hb

/-! ## Threads -/

theorem State.slotTaken_eq_false {s : State} {u : EuThread} :
    s.slotTaken u = false ↔ ∀ v ∈ s.threads, v.euid ≠ u.euid ∨ v.tid ≠ u.tid := by
  simp only [State.slotTaken, List.any_eq_false, Bool.and_eq_true, decide_eq_true_eq, not_and_or, ne_eq]

theorem State.slotTaken_eq_true {s : State} {u : EuThread} :
    s.slotTaken u = true ↔ ∃ v ∈ s.threads, v.euid = u.euid ∧ v.tid = u.tid := by
  simp only [State.slotTaken, List.any_eq_true, Bool.and_eq_true, decide_eq_true_eq]

theorem State.hasRoom_iff {s : State} {u : EuThread} :
    s.hasRoom u = true ↔ s.threads.length < s.variant.threadSlots ∧
      (s.threads.filter fun v => decide (v.euid = u.euid)).length < s.variant.threadsPerEu ∧
      (u.euid :: s.threads.map EuThread.euid).dedup.length ≤ s.variant.numEus := by
  simp only [State.hasRoom, Bool.and_eq_true, decide_eq_true_eq, and_assoc]
  exact Iff.rfl

/-- A thread whose EUID and TID no thread has joins threads told apart. -/
theorem threadsDistinct_append {l : List EuThread} {u : EuThread} (hl : threadsDistinct l)
    (hu : ∀ v ∈ l, v.euid ≠ u.euid ∨ v.tid ≠ u.tid) : threadsDistinct (l ++ [u]) :=
  List.pairwise_append.2 ⟨hl, List.pairwise_singleton _ _, fun v hv w hw => by
    rw [List.mem_singleton] at hw; exact hw ▸ hu v hv⟩

theorem threadsDistinct_sublist {l m : List EuThread} (h : m.Sublist l) (hl : threadsDistinct l) :
    threadsDistinct m := List.Pairwise.sublist h hl

/-- The threads seen as the hardware's slots see them: EUID and TID. -/
def slotIds (l : List EuThread) : List (BitVec 4 × Nat) := l.map fun u => (u.euid, u.tid)

theorem slotIds_set {l : List EuThread} {k : Nat} {u v : EuThread} (hk : l[k]? = some u) (he : v.euid = u.euid)
    (ht : v.tid = u.tid) : slotIds (l.set k v) = slotIds l := by
  obtain ⟨hlt, rfl⟩ := List.getElem?_eq_some_iff.1 hk
  have hlt' : k < (slotIds l).length := by simpa [slotIds] using hlt
  calc slotIds (l.set k v) = (slotIds l).set k (v.euid, v.tid) := List.map_set
    _ = (slotIds l).set k (slotIds l)[k] := by simp [slotIds, he, ht]
    _ = slotIds l := List.set_getElem_self hlt'

theorem threadsDistinct_iff {l : List EuThread} :
    threadsDistinct l ↔ (slotIds l).Pairwise fun x y => x.1 ≠ y.1 ∨ x.2 ≠ y.2 := by
  simp only [threadsDistinct, slotIds, List.pairwise_map]

theorem threadsFit_iff {v : Config.Variant} {l : List EuThread} :
    ThreadsFit v l ↔ (slotIds l).length ≤ v.threadSlots ∧
      (∀ e : BitVec 4, ((slotIds l).countP fun x => decide (x.1 = e)) ≤ v.threadsPerEu) ∧
      ((slotIds l).map Prod.fst).dedup.length ≤ v.numEus := by
  have hfst : (slotIds l).map Prod.fst = l.map EuThread.euid := by simp [slotIds]
  have hcount (e : BitVec 4) : ((slotIds l).countP fun x => decide (x.1 = e)) =
      (l.filter fun u => decide (u.euid = e)).length := by
    rw [slotIds, List.countP_map, List.countP_eq_length_filter]; rfl
  simp only [hfst, hcount]
  exact ⟨fun h => ⟨by simpa [slotIds] using h.slots, h.perEu, h.eus⟩,
    fun ⟨hs, hp, he⟩ => ⟨by simpa [slotIds] using hs, hp, he⟩⟩

/-- A list has at least as many different entries as a part of it. -/
theorem length_dedup_le_of_subset {α : Type} [DecidableEq α] {l m : List α} (h : m ⊆ l) :
    m.dedup.length ≤ l.dedup.length := by
  rw [← List.card_toFinset, ← List.card_toFinset]
  exact Finset.card_le_card fun x hx => List.mem_toFinset.2 (h (List.mem_toFinset.1 hx))

theorem ThreadsFit.sublist {v : Config.Variant} {l m : List EuThread} (h : m.Sublist l) (hl : ThreadsFit v l) :
    ThreadsFit v m where
  slots := h.length_le.trans hl.slots
  perEu e := (h.filter _).length_le.trans (hl.perEu e)
  eus := (length_dedup_le_of_subset (h.map _).subset).trans hl.eus

/-- Where the hardware has a slot for one more thread, the threads with that one fit. -/
theorem ThreadsFit.append {s : State} {u : EuThread} (hl : ThreadsFit s.variant s.threads) (hr : s.hasRoom u = true) :
    ThreadsFit s.variant (s.threads ++ [u]) := by
  obtain ⟨hslots, hperEu, heus⟩ := State.hasRoom_iff.1 hr
  refine ⟨by simpa using hslots, fun e => ?_, ?_⟩
  · rw [List.filter_append, List.length_append]
    by_cases he : u.euid = e
    · subst he; simpa using hperEu
    · simpa [he] using hl.perEu e
  · have hsub : (s.threads ++ [u]).map EuThread.euid ⊆ u.euid :: s.threads.map EuThread.euid := fun x hx => by
      rw [List.map_append, List.mem_append] at hx
      exact List.mem_cons.2 (hx.symm.imp_left List.mem_singleton.1)
    exact (length_dedup_le_of_subset hsub).trans heus

/-! ## Parts of the state -/

theorem State.Inv.parser {s : State} (hs : s.Inv) (e : Engine) : (s.parser e).Wf := by
  cases e with
  | render => exact hs.render
  | video => exact hs.video
  | blitter => exact hs.blitter

section
variable {s : State} (hs : s.Inv)
include hs

theorem State.Inv.setParser {e : Engine} {p : Parser} (hp : p.Wf) : (s.setParser e p).Inv := by
  cases e with
  | render => exact { hs with render := hp }
  | video => exact { hs with video := hp }
  | blitter => exact { hs with blitter := hp }

theorem State.Inv.setGpe {g : Gpe} (hg : g.Wf) : (s.setGpe g).Inv := { hs with gpe := hg }
theorem State.Inv.setOpaque (o : List OpaqueEntry) : (s.setOpaque o).Inv := { hs with }
theorem State.Inv.setPhys {m : List Host.Cell} (hm : memoryWf m = true) : (s.setPhys m).Inv := { hs with phys := hm }
theorem State.Inv.setThreads {l : List EuThread} (hd : threadsDistinct l) (hf : ThreadsFit s.variant l) :
    (s.setThreads l).Inv := { hs with threads := hd, threadsFit := hf }
theorem State.Inv.setUrb {u : List (Nat × UrbEntry)} (hu : Assoc.sorted u = true) : (s.setUrb u).Inv :=
  { hs with urb := hu }
theorem State.Inv.setHidden {h : Hidden} (hh : h.vcsFifo.length ≤ Config.dmaFifoLines) : (s.setHidden h).Inv :=
  { hs with fifo := hh }
theorem State.Inv.writeReg (o : Nat) (v : Word) : (s.writeReg o v).Inv :=
  { hs with mmio := s.canonical_writeReg o v hs.mmio }
theorem State.Inv.writeNamed (r : NamedReg) (v : Word) : (s.writeNamed r v).Inv :=
  { hs with namedRegs := s.canonical_writeNamed r v hs.namedRegs }
theorem State.Inv.pushInterrupt (i : HostInterrupt) : (s.pushInterrupt i).Inv := { hs with }
theorem State.Inv.bumpFree : s.bumpFree.Inv := { hs with }
theorem State.Inv.setTurn (e : Engine) : (s.setTurn e).Inv := { hs with }
theorem State.Inv.setSchedule (l : List Event) : (s.setSchedule l).Inv := { hs with }

theorem State.Inv.tableById (i : TableId) : (s.tableById i).Wf := by
  cases i with
  | global => exact hs.gtt
  | perProcess e => exact (hs.parser e).ppgtt

/-- A table that lists its pages rising replaces one; the global one is not of 64 KB. -/
theorem State.Inv.setTableById {i : TableId} {t : PageTable} (ht : t.Wf) (hz : i = .global → t.size ≠ .kb64) :
    (s.setTableById i t).Inv := by
  cases i with
  | global => exact { hs with gtt := ht, gttSize := hz rfl }
  | perProcess e => exact hs.setParser { hs.parser e with ppgtt := ht }

theorem State.Inv.writePhys (pas : List Nat) (bytes : List Byte) :
    (s.setPhys (Machine.writePhys s.phys pas bytes)).Inv :=
  hs.setPhys (memoryWf_writePhys pas bytes s.phys hs.phys)

/-- The thread in a slot may change in all but its EUID and TID. -/
theorem State.Inv.setThread {k : Nat} {u v : EuThread} (hk : s.threads[k]? = some u) (he : v.euid = u.euid)
    (ht : v.tid = u.tid) : (s.setThreads (s.threads.set k v)).Inv := by
  have hids := slotIds_set hk he ht
  refine hs.setThreads (threadsDistinct_iff.2 ?_) (threadsFit_iff.2 ?_)
  · rw [hids]; exact threadsDistinct_iff.1 hs.threads
  · rw [hids]; exact threadsFit_iff.1 hs.threadsFit

theorem State.Inv.modifyThread (k : Nat) {f : EuThread → EuThread}
    (hf : ∀ u, (f u).euid = u.euid ∧ (f u).tid = u.tid) : (s.modifyThread k f).Inv := by
  rcases s.modifyThread_cases k f with ⟨-, h⟩ | ⟨u, hk, h⟩
  · rw [h]; exact hs
  · rw [h]; exact hs.setThread hk (hf u).1 (hf u).2

theorem State.Inv.spawn (u : EuThread) : (s.spawn u).Inv := by
  rcases s.spawn_cases u with ⟨-, h⟩ | ⟨hfree, hroom, h⟩
  · rw [h]; exact hs
  · rw [h]
    exact hs.setThreads (threadsDistinct_append hs.threads (State.slotTaken_eq_false.1 hfree))
      (hs.threadsFit.append hroom)

theorem State.Inv.endThread (k : Nat) : (s.endThread k).Inv :=
  hs.setThreads (threadsDistinct_sublist (s.endThread_sublist k) hs.threads)
    (hs.threadsFit.sublist (s.endThread_sublist k))

theorem State.Inv.takeException {t : State} {k : Nat} (h : s.takeException k = .next t) : t.Inv := by
  rcases State.takeException_next h with ⟨-, rfl⟩ | ⟨u, a, hk, -, rfl⟩
  · exact hs
  · exact hs.setThread hk rfl rfl

/-! ## Writes to memory -/

theorem State.Inv.commit {t : State} {pas : List Nat} {bytes : List Byte} (h : s.commit pas bytes = .next t) :
    t.Inv := by
  obtain ⟨-, rfl⟩ := State.commit_next h
  exact hs.writePhys _ _

theorem State.Inv.storeGfx {t : State} {i : TableId} {a : GraphicsAddress} {bytes : List Byte}
    (h : s.storeGfx i a bytes = .next t) : t.Inv := by
  obtain ⟨pas, -, -, rfl⟩ := State.storeGfx_next h
  exact hs.writePhys _ _

theorem State.Inv.dataPortStore {t : State} {o : Nat} {bytes : List Byte} (h : s.dataPortStore o bytes = .next t) :
    t.Inv := by
  obtain ⟨ps, -, -, rfl⟩ := State.dataPortStore_next h
  exact hs.writePhys _ _

theorem State.Inv.scratchWrite {t : State} {k o : Nat} {bytes : List Byte} (h : s.scratchWrite k o bytes = .next t) :
    t.Inv := by
  rcases State.scratchWrite_next h with ⟨-, rfl⟩ | ⟨u, -, hstore⟩
  · exact hs
  · exact hs.dataPortStore hstore

theorem State.Inv.deviceWriteReserved {t : State} {e : Engine} {k : Nat} (h : s.deviceWriteReserved e k = .next t) :
    t.Inv := by
  rcases State.deviceWriteReserved_next h with rfl | ⟨u, hu, rfl⟩
  · exact hs
  · exact (hs.storeGfx hu).bumpFree

theorem State.Inv.hostWriteMem {t : State} {sp : Space} {a : Nat} {bytes : List Byte}
    (h : s.hostWriteMem sp a bytes = .next t) : t.Inv := by
  cases sp with
  | phys => exact hs.commit h
  | gfx i => exact hs.storeGfx h

end

/-! ## Events: what each does where it answers a next state -/

theorem ringAligned_iff {a : GraphicsAddress} {h t : Nat} :
    ringAligned a h t = true ↔ a.toNat % 4096 = 0 ∧ h % 4 = 0 ∧ t % 4 = 0 := by
  simp [ringAligned, Config.pageSize, and_assoc]

theorem ringLengthLegal_iff {n : Nat} : ringLengthLegal n = true ↔ n ≤ 2097152 := decide_eq_true_iff

theorem State.hostProgramRing_next {s t : State} {e : Engine} {a : GraphicsAddress} {n h l : Nat}
    (hx : s.hostProgramRing e a n h l = .next t) :
    (a.toNat % 4096 = 0 ∧ h % 4 = 0 ∧ l % 4 = 0) ∧ n ≤ 2097152 ∧
      t = (s.setParser e { s.parser e with ring := ⟨a, n, h, l, true⟩ }).dmaProgram e h l := by
  unfold State.hostProgramRing at hx
  split at hx
  · split at hx
    · cases hx; exact ⟨ringAligned_iff.1 ‹_›, ringLengthLegal_iff.1 ‹_›, rfl⟩
    · cases hx
  · cases hx

theorem State.hostWriteTail_next {s t : State} {e : Engine} {l : Nat} (hx : s.hostWriteTail e l = .next t) :
    l % 4 = 0 ∧ t = (s.setParser e { s.parser e with ring := { (s.parser e).ring with tail := l } }).dmaTail e l := by
  unfold State.hostWriteTail at hx
  split at hx
  · cases hx; exact ⟨‹_›, rfl⟩
  · cases hx

theorem State.hostWriteReg_next {s t : State} {o : Nat} {v : Word} (hx : s.hostWriteReg o v = .next t) :
    t = s.writeReg o v := by
  unfold State.hostWriteReg at hx
  split at hx
  · split at hx
    · cases hx
    · cases hx; rfl
  · cases hx

theorem State.hostWriteNamedReg_next {s t : State} {r : NamedReg} {v : Word}
    (hx : s.hostWriteNamedReg r v = .next t) : t = s.writeNamed r v := by
  unfold State.hostWriteNamedReg at hx
  split at hx
  · cases hx
  · cases hx; rfl

theorem State.hostReadMem_next {s t : State} {sp : Space} {a n : Nat} (hx : s.hostReadMem sp a n = .next t) :
    t = s := by
  cases sp with
  | phys => cases hx; rfl
  | gfx i =>
    simp only [State.hostReadMem] at hx
    split at hx
    · cases hx
    · cases hx; rfl

theorem State.hostReadReg_next {s t : State} {o : Nat} (hx : s.hostReadReg o = .next t) : t = s := by
  unfold State.hostReadReg at hx
  split at hx
  · cases hx; rfl
  · cases hx

/-! ## Every event keeps the invariant -/

section
variable {s t : State} (hs : s.Inv)
include hs

theorem State.Inv.hostProgramRing {e : Engine} {a : GraphicsAddress} {n h l : Nat}
    (hx : s.hostProgramRing e a n h l = .next t) : t.Inv := by
  obtain ⟨⟨ha, hh, hl⟩, hn, rfl⟩ := State.hostProgramRing_next hx
  have hp : (s.setParser e { s.parser e with ring := ⟨a, n, h, l, true⟩ }).Inv :=
    hs.setParser { hs.parser e with ring := fun _ => ⟨ha, hn, hh, hl⟩ }
  obtain ⟨g, hg, hfifo⟩ := (s.setParser e { s.parser e with ring := ⟨a, n, h, l, true⟩ }).dmaProgram_eq e h l
  rw [hg]
  exact hp.setHidden (hfifo.trans hp.fifo)

theorem State.Inv.hostWriteTail {e : Engine} {l : Nat} (hx : s.hostWriteTail e l = .next t) : t.Inv := by
  obtain ⟨hl, rfl⟩ := State.hostWriteTail_next hx
  have hp : (s.setParser e { s.parser e with ring := { (s.parser e).ring with tail := l } }).Inv :=
    hs.setParser { hs.parser e with ring := fun hv => { (hs.parser e).ring hv with tailAligned := hl } }
  obtain ⟨g, hg, hfifo⟩ :=
    (s.setParser e { s.parser e with ring := { (s.parser e).ring with tail := l } }).dmaTail_eq e l
  rw [hg]
  exact hp.setHidden (hfifo.trans hp.fifo)

theorem State.Inv.hostMapPage (i : TableId) (a : GraphicsAddress) (e : PageEntry) : (s.hostMapPage i a e).Inv :=
  hs.setTableById (PageTable.sorted_mapPage _ a e (hs.tableById i)) fun hi => by
    subst hi; rw [PageTable.mapPage_size]; exact hs.gttSize

theorem State.Inv.hostSetTableSize {i : TableId} {z : TableSize} (hx : s.hostSetTableSize i z = .next t) : t.Inv := by
  obtain ⟨hz, rfl⟩ := State.hostSetTableSize_next hx
  exact hs.setTableById (hs.tableById i) fun hi hz' => hz ⟨hi, hz'⟩

theorem State.Inv.vcsDmaRequest (hx : s.vcsDmaRequest = .next t) : t.Inv := by
  have hfifo := State.vcsDmaRequest_fifo hx hs.fifo
  rcases State.vcsDmaRequest_next hx with ⟨-, rfl⟩ | ⟨-, x, rfl⟩
  · exact hs.setHidden hfifo
  · exact hs.setHidden hfifo

/-- Whatever another agent does keeps the machine well kept. -/
theorem State.Inv.perform {ev : Event} (hx : s.perform ev = .next t) : t.Inv := by
  cases ev with
  | runParser e => cases hx; exact hs.setTurn e
  | hostWriteMem sp a bytes => exact hs.hostWriteMem hx
  | hostProgramRing e a n h l => exact hs.hostProgramRing hx
  | hostWriteTail e l => exact hs.hostWriteTail hx
  | hostWriteReg o v => rw [State.hostWriteReg_next hx]; exact hs.writeReg o v
  | hostWriteNamedReg r v => rw [State.hostWriteNamedReg_next hx]; exact hs.writeNamed r v
  | hostReadMem sp a n => rw [State.hostReadMem_next hx]; exact hs
  | hostReadReg o => rw [State.hostReadReg_next hx]; exact hs
  | hostMapPage i a e => cases hx; exact hs.hostMapPage i a e
  | setStatusPage e page => cases hx; exact hs.setParser { hs.parser e with }
  | setTable e i => cases hx; exact hs.setParser { hs.parser e with }
  | dataPortWrite o bytes => exact hs.dataPortStore hx
  | spawnThread u => cases hx; exact hs.spawn u
  | euException k => exact hs.takeException hx
  | hostSetTableSize i z => exact hs.hostSetTableSize hx
  | deviceWriteReserved e k => exact hs.deviceWriteReserved hx
  | scratchWrite k o bytes => exact hs.scratchWrite hx
  | pushMask k m => cases hx; exact hs.modifyThread k fun _ => ⟨rfl, rfl⟩
  | popMask k => cases hx; exact hs.modifyThread k fun _ => ⟨rfl, rfl⟩
  | endThread k => cases hx; exact hs.endThread k
  | urbWrite h e => cases hx; exact hs.setUrb (Assoc.sorted_insert h e s.urb hs.urb)
  | cache op => cases hx; exact hs.setHidden ((s.hidden.apply_fifo op).1 ▸ hs.fifo)
  | vcsDmaRequest => exact hs.vcsDmaRequest hx
  | surfaceAccess a => rw [(State.performSurfaceAccess_next hx).1]; exact hs

end

/-! ## The commands that complete -/

/-- `Completes s i n w`: command `i`, of `n` DWords, can complete in `s`, and `w` is the state it has written before the
head moves (40_common_commands.md R190 to R225, 41_mi_commands.md R230, R231, R235). `exec_completes` ties it to `exec`. -/
inductive Completes (s : State) : Instr → Nat → State → Prop where
  | pipelineSelect (r : BitVec 14) {p : BitVec 2} (hp : p ≠ 3) :
      Completes s (.pipelineSelect r p) 1 (s.selectPipeline p)
  | stateBaseAddress (h : LenHeader) {g : SbaGeneral} {sf dy ind ins : SbaBase} {gb db ib nb : SbaBound}
      (hg : generalMbz g = false) (hsf : baseMbz sf = false) (hdy : baseMbz dy = false) (hind : baseMbz ind = false)
      (hins : baseMbz ins = false) (hb : (s.gpe.updateBases g sf dy ind ins gb db ib nb).boundsViolated = false) :
      Completes s (.stateBaseAddress h g sf dy ind ins gb db ib nb) 10
        (s.rebase (s.gpe.updateBases g sf dy ind ins gb db ib nb))
  | stateSip (h : LenHeader) (p : BitVec 28) (r : BitVec 4) :
      Completes s (.stateSip h p r) 2 (s.setGpe { s.gpe with sip := .holds p })
  | swtessBaseAddress (h : LenHeader) (b : BitVec 20) {m : BitVec 4} (r : BitVec 8) (hm : mocsReserved m = false) :
      Completes s (.swtessBaseAddress h b m r) 2
        (s.setGpe { s.gpe with swTessBase := .holds b, swTessMocs := .holds m })
  | statePrefetch (h : LenHeader) (p : BitVec 26) (r c : BitVec 3) : Completes s (.statePrefetch h p r c) 2 s
  | miNoop (d : BitVec 23) : Completes s (.miNoop d) 1 s
  | miUserInterrupt (d : BitVec 23) : Completes s (.miUserInterrupt d) 1 (s.pushInterrupt ⟨s.turn, .user⟩)
  | miReportHead (d : BitVec 23) (pas : List Nat) : Completes s (.miReportHead d) 1
      (s.setPhys (writePhys s.phys pas (bytesOfWord (Config.headRegisterImage s.freeCounter)))).bumpFree

/-- Where a command answers a next state it lay before the tail, and its head moves after what it writes. -/
theorem exec_completes {i : Instr} {s t : State} (hx : exec i s = .next t) :
    ∃ n w, Completes s i n w ∧ (s.parser s.turn).available n = true ∧ t = w.advance n := by
  rcases exec_next hx with ⟨r, p, rfl, h⟩ | ⟨l, g, sf, dy, ind, ins, gb, db, ib, nb, rfl, h⟩ | ⟨l, p, r, rfl, h⟩ |
    ⟨l, b, m, r, rfl, h⟩ | ⟨l, p, r, c, rfl, h⟩ | ⟨d, rfl, h⟩ | ⟨d, rfl, h⟩ | ⟨d, rfl, h⟩
  · obtain ⟨-, ha, -, hp, rfl⟩ := execPipelineSelect_next h
    exact ⟨_, _, .pipelineSelect r hp, ha, rfl⟩
  · obtain ⟨-, ha, ⟨hg, hsf, hdy, hind, hins⟩, hb, rfl⟩ := execStateBaseAddress_next h
    exact ⟨_, _, .stateBaseAddress l hg hsf hdy hind hins hb, ha, rfl⟩
  · obtain ⟨-, ha, rfl⟩ := execStateSip_next h
    exact ⟨_, _, .stateSip l p r, ha, rfl⟩
  · obtain ⟨-, ha, hm, rfl⟩ := execSwtessBaseAddress_next h
    exact ⟨_, _, .swtessBaseAddress l b r hm, ha, rfl⟩
  · obtain ⟨-, ha, rfl⟩ := execStatePrefetch_next h
    exact ⟨_, _, .statePrefetch l p r c, ha, rfl⟩
  · obtain ⟨-, ha, rfl⟩ := execMiNoop_next h
    exact ⟨_, _, .miNoop d, ha, rfl⟩
  · obtain ⟨-, -, ha, rfl⟩ := execMiUserInterrupt_next h
    exact ⟨_, _, .miUserInterrupt d, ha, rfl⟩
  · obtain ⟨-, -, -, ha, u, hu, rfl⟩ := execMiReportHead_next h
    obtain ⟨pas, -, -, rfl⟩ := State.reportHead_next hu
    exact ⟨_, _, .miReportHead d pas, ha, rfl⟩

@[simp] theorem State.selectPipeline_turn (s : State) (p : BitVec 2) : (s.selectPipeline p).turn = s.turn := rfl
@[simp] theorem State.selectPipeline_parser (s : State) (p : BitVec 2) (e : Engine) :
    (s.selectPipeline p).parser e = s.parser e := by simp [State.selectPipeline]
@[simp] theorem State.selectPipeline_urb (s : State) (p : BitVec 2) : (s.selectPipeline p).urb = [] := rfl

/-- What a command writes is no parser and no turn: the head alone moves, when it completes. -/
theorem Completes.parser_eq {s w : State} {i : Instr} {n : Nat} (h : Completes s i n w) :
    w.turn = s.turn ∧ ∀ e, w.parser e = s.parser e := by
  cases h <;> simp

section
variable {s t : State} (hs : s.Inv)
include hs

/-! ## Every command that completes keeps the invariant -/

/-- The head moves past a command that lies before the tail. -/
theorem State.Inv.advance {n : Nat} (ha : (s.parser s.turn).available n = true) : (s.advance n).Inv :=
  hs.setParser ((hs.parser s.turn).advance ha)

theorem State.Inv.rebase {g : Gpe} (hg : g.Wf) : (s.rebase g).Inv := by
  obtain ⟨o, ho⟩ := s.rebase_eq g
  rw [ho]
  exact (hs.setGpe hg).setOpaque o

theorem State.Inv.selectPipeline {p : BitVec 2} (hp : p ≠ 3) : (s.selectPipeline p).Inv := by
  have hg : Gpe.Wf { s.gpe with pipelineSelect := .holds p } := { hs.gpe with pipeline := by simpa using hp }
  have hu : ((s.setGpe { s.gpe with pipelineSelect := .holds p }).setUrb []).Inv := (hs.setGpe hg).setUrb rfl
  exact hu.setOpaque _

theorem State.Inv.completes {i : Instr} {n : Nat} {w : State} (h : Completes s i n w) : w.Inv := by
  cases h with
  | pipelineSelect r hp => exact hs.selectPipeline hp
  | stateBaseAddress h hg hsf hdy hind hins hb => exact hs.rebase (hs.gpe.updateBases hg hsf hdy hind hins hb)
  | stateSip h p r => exact hs.setGpe { hs.gpe with }
  | swtessBaseAddress h b r hm => exact hs.setGpe { hs.gpe with swTess := hm }
  | statePrefetch h p r c => exact hs
  | miNoop d => exact hs
  | miUserInterrupt d => exact hs.pushInterrupt _
  | miReportHead d pas => exact (hs.writePhys _ _).bumpFree

theorem State.Inv.exec {i : Instr} (hx : exec i s = .next t) : t.Inv := by
  obtain ⟨n, w, hw, ha, rfl⟩ := exec_completes hx
  obtain ⟨hturn, hparser⟩ := hw.parser_eq
  exact (hs.completes hw).advance (by rw [hturn, hparser]; exact ha)

/-! ## Every step keeps the invariant -/

theorem State.Inv.stepParser (hx : stepParser s = .next t) : t.Inv := by
  rcases stepParser_next hx with ⟨-, rfl⟩ | ⟨i, -, hi⟩
  · exact hs
  · exact hs.exec hi

theorem State.Inv.step (hx : step s = .next t) : t.Inv := by
  rcases step_next hx with ⟨e, l, h⟩ | ⟨ev, l, h⟩
  · exact ((hs.setSchedule l).setTurn e).stepParser h
  · exact (hs.setSchedule l).perform h

/-- The step lemma, once for every run. -/
theorem State.Inv.reachable (hr : Reachable s t) : t.Inv := by
  induction hr with
  | refl => exact hs
  | step _ hx ih => exact ih.step hx

end

/-- Settles O47: a step is an event or a command that completes, and each keeps every part of the invariant. -/
theorem stepKeepsTheInvariant : Obligations.StepKeepsTheInvariant := by
  unfold Obligations.StepKeepsTheInvariant
  exact fun s t hs hx => hs.step hx

/-- Settles O49, by induction on the run; alignment of the pc and the legal pipeline are parts of the invariant. -/
theorem reachableStatesAreWellKept : Obligations.ReachableStatesAreWellKept := by
  unfold Obligations.ReachableStatesAreWellKept
  intro s t hs hr
  have ht : t.Inv := hs.reachable hr
  exact ⟨ht, fun e hv => (ht.parser e).pc_aligned hv, ht.gpe.pipeline⟩

end Sys2Proof.Machine
end

section
/-! Commands: what completing one does to the head and to each state variable, and the refusal past the tail
(10_state.md R46, R47, R50 to R57). -/

namespace Sys2Proof.Machine

/-! ## The head -/

/-- Settles O20: a command that completes moves its parser by its own length, `Completes` naming that length. -/
theorem headAdvancesByTheCommandLength : Obligations.HeadAdvancesByTheCommandLength := by
  unfold Obligations.HeadAdvancesByTheCommandLength
  intro s t i n hx hn
  obtain ⟨m, w, hw, ha, rfl⟩ := exec_completes hx
  have hm : n = m := by subst hn; cases hw <;> rfl
  subst hm
  have hadv : (w.advance n).parser s.turn = (s.parser s.turn).advance n := by
    obtain ⟨hturn, hparser⟩ := hw.parser_eq
    rw [← hturn, w.advance_parser_turn, hparser]
  rw [hadv]
  refine ⟨fun hb => ⟨Parser.advance_of_inactive n hb, ?_⟩, Parser.advance_of_active n⟩
  simpa [Parser.available_iff, hb] using ha

/-- Settles O21. -/
theorem programCounterIsStartPlusHead : Obligations.ProgramCounterIsStartPlusHead := by
  unfold Obligations.ProgramCounterIsStartPlusHead
  exact fun p hp hv => ⟨Parser.pc_of_inactive, Parser.pc_of_active, hp.pc_aligned hv⟩

/-! ## Commands past the tail -/

theorem State.tailCheck_past {s : State} {n : Nat} (hb : (s.parser s.turn).bb.active = false)
    (hp : (s.parser s.turn).ring.length < (s.parser s.turn).ring.head + 4 * n ∨
      (s.parser s.turn).ring.pending < 4 * n) : s.tailCheck n = some .commandPastTail := by
  have ha : (s.parser s.turn).available n = false := by
    rw [Bool.eq_false_iff, ne_eq, Parser.available_iff]
    rintro (h | ⟨h1, h2⟩)
    · simp [hb] at h
    · omega
  simp [State.tailCheck, ha]

/-- Past the tail a command with the legal DWord Length is refused before its operands are looked at. -/
theorem State.headerChecks_past {s : State} {h : LenHeader} {n : Nat} (hr : s.turn = .render)
    (ht : s.tailCheck n = some .commandPastTail) :
    s.headerChecks h h.dwordLength n = some .commandPastTail := by
  simp [State.headerChecks, admitRender_eq_none.2 hr, ht]

theorem State.plainMiChecks_past {s : State} (m : String) (ht : s.tailCheck 1 = some .commandPastTail) :
    s.plainMiChecks m 0 = some .commandPastTail := by
  simp [State.plainMiChecks, lengthSingle, ht]

theorem State.optionalMiChecks_past {s : State} {b : Bool} (m : String) (hb : b = true)
    (ht : s.tailCheck 1 = some .commandPastTail) : s.optionalMiChecks b m 0 = some .commandPastTail := by
  rw [State.optionalMiChecks, hb, Bool.not_true, refuseIf_false, orThen_none, s.plainMiChecks_past m ht]

/-- Settles O19: the check for the tail is the first that fails. -/
theorem commandPastTailIsRefused : Obligations.CommandPastTailIsRefused := by
  unfold Obligations.CommandPastTailIsRefused
  intro s i n hb hp hi
  have ht : s.tailCheck n = some .commandPastTail := s.tailCheck_past hb hp
  rcases hi with ⟨rfl, rfl | ⟨hacc, rfl⟩ | ⟨hacc, hturn, rfl⟩ | ⟨hr, r, v, rfl⟩⟩ |
    ⟨hr, rfl, ⟨a, p, r, rfl⟩ | ⟨a, b, m, r, rfl⟩ | ⟨a, p, r, c, rfl⟩⟩ |
    ⟨hr, rfl, r, g, a, b, c, d, k, l, m, o, rfl⟩
  · show execMiNoop 0 s = _
    rw [execMiNoop, s.plainMiChecks_past _ ht, complete_some]
  · show execMiUserInterrupt 0 s = _
    rw [execMiUserInterrupt, s.optionalMiChecks_past _ hacc ht, complete_some]
  · show execMiReportHead 0 s = _
    rw [execMiReportHead, s.optionalMiChecks_past _ (State.acceptsReportHead_iff.2 ⟨hacc, hturn⟩) ht]
  · show execPipelineSelect r v s = _
    rw [execPipelineSelect, admitRender_eq_none.2 hr, lengthSingle, ht, orThen_none, orThen_some, complete_some]
  · show execStateSip ⟨a, 0⟩ p r s = _
    rw [execStateSip, State.headerChecks_past (h := ⟨a, 0⟩) hr ht, orThen_some, complete_some]
  · show execSwtessBaseAddress ⟨a, 0⟩ b m r s = _
    rw [execSwtessBaseAddress, State.headerChecks_past (h := ⟨a, 0⟩) hr ht, orThen_some, complete_some]
  · show execStatePrefetch ⟨a, 0⟩ p r c s = _
    rw [execStatePrefetch, State.headerChecks_past (h := ⟨a, 0⟩) hr ht, orThen_some, complete_some]
  · show execStateBaseAddress ⟨r, 8⟩ g a b c d k l m o s = _
    rw [execStateBaseAddress, State.headerChecks_past (h := ⟨r, 8⟩) hr ht, orThen_some, complete_some]

/-! ## The state variables -/

theorem State.mem_forget {s : State} {l : List OpaqueItem} {x : OpaqueEntry} (hx : x ∈ (s.forget l).opaqueState) :
    x ∈ s.opaqueState := (List.mem_filter.1 hx).1

theorem State.mem_rebase {s : State} {g : Gpe} {x : OpaqueEntry} (hx : x ∈ (s.rebase g).opaqueState) :
    x ∈ s.opaqueState := by
  unfold State.rebase at hx
  split at hx
  · exact State.mem_forget hx
  · exact hx

namespace Completes
variable {s w : State} {i : Instr} {n : Nat} (h : Completes s i n w)
include h

theorem pipelineSelect_eq (hi : ∀ r v, i ≠ .pipelineSelect r v) : w.gpe.pipelineSelect = s.gpe.pipelineSelect := by
  cases h with
  | pipelineSelect r hp => exact absurd rfl (hi _ _)
  | stateBaseAddress => rw [State.rebase_gpe]; rfl
  | _ => rfl

theorem sip_eq (hi : ∀ h p r, i ≠ .stateSip h p r) : w.gpe.sip = s.gpe.sip := by
  cases h with
  | stateSip => exact absurd rfl (hi _ _ _)
  | stateBaseAddress => rw [State.rebase_gpe]; rfl
  | _ => rfl

theorem swTess_eq (hi : ∀ h b m r, i ≠ .swtessBaseAddress h b m r) :
    w.gpe.swTessBase = s.gpe.swTessBase ∧ w.gpe.swTessMocs = s.gpe.swTessMocs := by
  cases h with
  | swtessBaseAddress => exact absurd rfl (hi _ _ _ _)
  | stateBaseAddress => rw [State.rebase_gpe]; exact ⟨rfl, rfl⟩
  | _ => exact ⟨rfl, rfl⟩

/-- The bases, their control state, the force-write-thru bit and the bounds: all the variables but the four named. -/
theorem bases_eq (hi : ∀ h g a b c d k l m n, i ≠ .stateBaseAddress h g a b c d k l m n) :
    ∃ p b m q, w.gpe = { s.gpe with pipelineSelect := p, swTessBase := b, swTessMocs := m, sip := q } := by
  cases h with
  | stateBaseAddress => exact absurd rfl (hi _ _ _ _ _ _ _ _ _ _)
  | _ => exact ⟨_, _, _, _, rfl⟩

/-- No command adds opaque state. -/
theorem opaqueState_subset : ∀ x ∈ w.opaqueState, x ∈ s.opaqueState := by
  cases h with
  | pipelineSelect => exact fun x hx => State.mem_forget hx
  | stateBaseAddress => exact fun x hx => State.mem_rebase hx
  | _ => exact fun x hx => hx

theorem opaqueState_eq (hp : ∀ r v, i ≠ .pipelineSelect r v)
    (hb : ∀ h g a b c d k l m n, i ≠ .stateBaseAddress h g a b c d k l m n) : w.opaqueState = s.opaqueState := by
  cases h with
  | pipelineSelect => exact absurd rfl (hp _ _)
  | stateBaseAddress => exact absurd rfl (hb _ _ _ _ _ _ _ _ _ _)
  | _ => rfl

theorem urb_eq (hi : ∀ r v, i ≠ .pipelineSelect r v) : w.urb = s.urb := by
  cases h with
  | pipelineSelect => exact absurd rfl (hi _ _)
  | stateBaseAddress => exact State.rebase_urb _ _
  | _ => rfl

theorem urb_eq_nil (hi : ∃ r v, i = .pipelineSelect r v) : w.urb = [] := by
  obtain ⟨r, v, rfl⟩ := hi
  cases h
  exact State.selectPipeline_urb s v

end Completes

/-- Settles O32: what a command writes is read off `Completes`, and moving the head writes no state variable. -/
theorem stateVariablesAreWrittenOnlyByTheirCommands : Obligations.StateVariablesAreWrittenOnlyByTheirCommands := by
  unfold Obligations.StateVariablesAreWrittenOnlyByTheirCommands
  intro i s t hx
  obtain ⟨n, w, hw, -, rfl⟩ := exec_completes hx
  simp only [State.advance_gpe, State.advance_opaqueState, State.advance_urb]
  exact ⟨hw.pipelineSelect_eq, hw.sip_eq, hw.swTess_eq, hw.bases_eq, hw.opaqueState_subset, hw.opaqueState_eq,
    hw.urb_eq, hw.urb_eq_nil⟩

end Sys2Proof.Machine
end

section
/-! Events of the other agents: rings, the command DMA of the VCS, threads, mask stacks, the URB and the caches
(10_state.md R41, R48, R73 to R81; 00_scope.md R17, R19; 70_reset_and_hazards.md R835). -/

namespace Sys2Proof.Machine

/-! ## Rings -/

/-- The DMA's copies follow the ring of the video engine alone. -/
theorem State.dmaProgram_hidden (s : State) (e : Engine) (h t : Nat) :
    s.dmaProgram e h t = { s with
      hidden := if e = .video then { s.hidden with vcsFifo := [], vcsDmaHead := h, vcsDmaTail := t } else s.hidden } := by
  cases e <;> rfl

theorem State.dmaTail_hidden (s : State) (e : Engine) (t : Nat) :
    s.dmaTail e t = { s with hidden := if e = .video then { s.hidden with vcsDmaTail := t } else s.hidden } := by
  cases e <;> rfl

theorem State.hostProgramRing_ok {s : State} {e : Engine} {a : GraphicsAddress} {n h t : Nat}
    (ha : a.toNat % 4096 = 0 ∧ h % 4 = 0 ∧ t % 4 = 0) (hn : n ≤ 2097152) :
    s.hostProgramRing e a n h t =
      .next ((s.setParser e { s.parser e with ring := ⟨a, n, h, t, true⟩ }).dmaProgram e h t) := by
  rw [State.hostProgramRing, if_pos (ringAligned_iff.2 ha), if_pos (ringLengthLegal_iff.2 hn)]

theorem State.hostProgramRing_tooLong {s : State} {e : Engine} {a : GraphicsAddress} {n h t : Nat}
    (ha : a.toNat % 4096 = 0 ∧ h % 4 = 0 ∧ t % 4 = 0) (hn : 2097152 < n) :
    s.hostProgramRing e a n h t = .refused .ringParametersIllegal := by
  rw [State.hostProgramRing, if_pos (ringAligned_iff.2 ha), if_neg fun h => (ringLengthLegal_iff.1 h).not_gt hn]

theorem State.hostProgramRing_misaligned {s : State} {e : Engine} {a : GraphicsAddress} {n h t : Nat}
    (ha : ¬ (a.toNat % 4096 = 0 ∧ h % 4 = 0 ∧ t % 4 = 0)) :
    s.hostProgramRing e a n h t = .refused .misaligned := by
  rw [State.hostProgramRing, if_neg fun h => ha (ringAligned_iff.1 h)]

/-- Settles O36. -/
theorem hostProgramsARing : Obligations.HostProgramsARing := by
  unfold Obligations.HostProgramsARing
  intro s e l
  refine ⟨fun a n h t hs => ⟨fun ha => ⟨fun hn => ?_, fun hn => ?_⟩, fun ha => ?_⟩,
    fun t hs => ⟨fun ht => ?_, fun ht => ?_⟩⟩
  · rw [step_event hs (by simp), State.perform, State.hostProgramRing_ok ha hn, State.dmaProgram_hidden,
      State.setParser_hidden, State.setSchedule_parser]
    rfl
  · rw [step_event hs (by simp), State.perform, State.hostProgramRing_tooLong ha hn]
  · rw [step_event hs (by simp), State.perform, State.hostProgramRing_misaligned ha]
  · rw [step_event hs (by simp), State.perform, State.hostWriteTail, if_pos ht, State.dmaTail_hidden,
      State.setParser_hidden, State.setSchedule_parser]
    rfl
  · rw [step_event hs (by simp), State.perform, State.hostWriteTail, if_neg ht]

/-! ## The command DMA of the VCS -/

theorem State.dmaRequests_iff {s : State} :
    s.dmaRequests = true ↔
      s.video.ring.valid = true ∧ s.vcsWaiting.length < 16 ∧ s.hidden.vcsDmaHead ≠ s.hidden.vcsDmaTail := by
  simp only [State.dmaRequests, Bool.and_eq_true, decide_eq_true_eq, and_assoc]
  exact Iff.rfl

/-- The line asked for is fetched where every byte of it is mapped. -/
theorem State.vcsDmaRequest_ok {s : State} {pas : List Nat} (hr : s.dmaRequests = true)
    (hp : (s.tableOf .video).plan (s.video.ring.start + BitVec.ofNat 32 s.dmaLine)
      (s.video.ring.lineBytes s.hidden.vcsDmaHead) = .ok pas) :
    s.vcsDmaRequest = .next (s.setHidden { s.hidden with
      vcsFifo := s.vcsWaiting ++ [⟨s.dmaLine, pas.map (readPhys s.phys)⟩]
      vcsDmaHead := s.video.ring.dmaNext s.hidden.vcsDmaHead s.hidden.vcsDmaTail }) := by
  rw [State.vcsDmaRequest, if_pos hr, hp]

theorem State.vcsDmaRequest_fault {s : State} {b : GraphicsAddress} (hr : s.dmaRequests = true)
    (hp : (s.tableOf .video).plan (s.video.ring.start + BitVec.ofNat 32 s.dmaLine)
      (s.video.ring.lineBytes s.hidden.vcsDmaHead) = .error b) : s.vcsDmaRequest = .fault (.gttError b) := by
  rw [State.vcsDmaRequest, if_pos hr, hp]

theorem State.vcsDmaRequest_of_not_requests {s : State} (hr : ¬ s.dmaRequests = true) :
    s.vcsDmaRequest = .next (s.setHidden { s.hidden with vcsFifo := s.vcsWaiting }) := by
  rw [State.vcsDmaRequest, if_neg hr]

/-- Settles O37: the statement's `w`, `o` and `n` are the waiting lines, the line asked for and its bytes in the ring. -/
theorem vcsDmaFetchesALine : Obligations.VcsDmaFetchesALine := by
  unfold Obligations.VcsDmaFetchesALine
  rintro s l hs w o n rfl rfl rfl
  rw [step_event hs (by simp), State.perform]
  refine ⟨fun hr => ⟨fun pas hp => ?_, fun b hp => ?_⟩, fun hr => ?_⟩
  · exact State.vcsDmaRequest_ok (s := s.setSchedule l) (State.dmaRequests_iff.2 hr) hp
  · exact State.vcsDmaRequest_fault (State.dmaRequests_iff.2 hr) hp
  · exact State.vcsDmaRequest_of_not_requests (s := s.setSchedule l) fun h => hr (State.dmaRequests_iff.1 h)

/-! ## Threads -/

/-- What a list without its entry `k` is: what came before it and what came after. -/
theorem eraseIdx_eq_of_getElem? {α : Type} {l : List α} {k : Nat} {x : α} (h : l[k]? = some x) :
    ∃ a b, l = a ++ x :: b ∧ a.length = k ∧ l.eraseIdx k = a ++ b := by
  obtain ⟨hk, rfl⟩ := List.getElem?_eq_some_iff.1 h
  exact ⟨l.take k, l.drop (k + 1), by simp, by simp [hk.le], List.eraseIdx_eq_take_drop_succ l k⟩

/-- Among threads told apart by EUID and TID, none but `u` itself has those of `u`. -/
theorem threadsDistinct_others {a b : List EuThread} {u : EuThread} (h : threadsDistinct (a ++ u :: b)) :
    ∀ v ∈ a ++ b, v.euid ≠ u.euid ∨ v.tid ≠ u.tid := by
  obtain ⟨-, hub, ha⟩ := List.pairwise_append.1 h
  intro v hv
  rcases List.mem_append.1 hv with hva | hvb
  · exact ha v hva u List.mem_cons_self
  · exact ((List.pairwise_cons.1 hub).1 v hvb).imp Ne.symm Ne.symm

theorem State.spawn_of_room {s : State} {u : EuThread} (hf : s.slotTaken u = false) (hr : s.hasRoom u = true) :
    s.spawn u = s.setThreads (s.threads ++ [u]) := if_neg (by simp [hf, hr])

theorem State.spawn_of_no_room {s : State} {u : EuThread} (h : s.slotTaken u = true ∨ s.hasRoom u = false) :
    s.spawn u = s := if_pos (by simpa using h)

/-- Settles O42. -/
theorem spawnFillsAndEndFreesASlot : Obligations.SpawnFillsAndEndFreesASlot := by
  unfold Obligations.SpawnFillsAndEndFreesASlot
  refine ⟨fun s u l hs => ?_, fun s k l hs => ?_⟩
  · rw [step_event hs (by simp), State.perform]
    refine ⟨fun hfree hslots hperEu heus => ?_, fun hno => ?_⟩
    · exact congrArg _ (State.spawn_of_room (s := s.setSchedule l) (State.slotTaken_eq_false.2 hfree)
        (State.hasRoom_iff.2 ⟨hslots, hperEu, heus⟩))
    · rw [State.spawn_of_no_room]
      · rfl
      · refine hno.imp State.slotTaken_eq_true.2 fun hfull => Bool.eq_false_iff.2 fun hroom => ?_
        obtain ⟨hslots, hperEu, heus⟩ := State.hasRoom_iff.1 hroom
        rcases hfull with h | h | h
        · exact hslots.not_ge h
        · exact hperEu.not_ge h
        · exact heus.not_gt h
  · rw [step_event hs (by simp), State.perform]
    refine ⟨fun u hu => ?_, fun hnone => ?_⟩
    · obtain ⟨a, b, hab, hlen, herase⟩ := eraseIdx_eq_of_getElem? hu
      refine ⟨a, b, hab, hlen, ?_, fun hd => threadsDistinct_others (hab ▸ hd)⟩
      rw [← herase]
      rfl
    · rw [State.endThread, State.setSchedule_threads, List.eraseIdx_of_length_le (List.getElem?_eq_none_iff.1 hnone)]
      rfl

/-! ## Mask stacks -/

/-- With space on chip, a pushed entry is held there and none is in scratch space. -/
theorem EuThread.pushMask_onChip {u : EuThread} (m : Nat) (h : u.maskStack.length < 16) :
    (u.pushMask m).maskOnChip = u.maskOnChip ++ [m] ∧ (u.pushMask m).maskInScratch = [] := by
  have hlen : (u.maskStack ++ [m]).length ≤ 16 := by simpa using h
  constructor
  · calc (u.maskStack ++ [m]).take 16 = u.maskStack ++ [m] := List.take_of_length_le hlen
      _ = u.maskStack.take 16 ++ [m] := by rw [List.take_of_length_le h.le]
  · exact List.drop_of_length_le hlen

/-- With the chip's entries full, a pushed entry goes to scratch space. -/
theorem EuThread.pushMask_inScratch {u : EuThread} (m : Nat) (h : 16 ≤ u.maskStack.length) :
    (u.pushMask m).maskOnChip = u.maskOnChip ∧ (u.pushMask m).maskInScratch = u.maskInScratch ++ [m] :=
  ⟨List.take_append_of_le_length h, List.drop_append_of_le_length h⟩

theorem State.modifyThread_of_some {s : State} {k : Nat} {u : EuThread} (f : EuThread → EuThread)
    (h : s.threads[k]? = some u) : s.modifyThread k f = s.setThreads (s.threads.set k (f u)) := by
  rw [State.modifyThread, h]

/-! ## The URB -/

theorem State.urbEntry_urbWrite (s : State) (h k : Nat) (e : UrbEntry) :
    (s.urbWrite h e).urbEntry k = if k = h then some e else s.urbEntry k := by
  split
  · subst k; exact Assoc.find?_insert_self h e s.urb
  · exact Assoc.find?_insert_ne ‹_› e s.urb

/-! ## Caches -/

theorem Hidden.lines_setLines (h : Hidden) (c d : CacheName) (l : List Nat) :
    (h.setLines c l).lines d = if d = c then l else h.lines d := by
  cases c <;> cases d <;> rfl

@[simp] theorem Hidden.setLines_llc (h : Hidden) (c : CacheName) (l : List Nat) : (h.setLines c l).llc = h.llc := by
  cases c <;> rfl

@[simp] theorem Hidden.setLines_vertex (h : Hidden) (c : CacheName) (l : List Nat) :
    (h.setLines c l).vertex = h.vertex := by
  cases c <;> rfl

/-- A filled cache holds the line beside those it held; every other cache is as it was. -/
theorem Hidden.apply_fill (h : Hidden) (c : CacheName) (n : Nat) :
    (∀ x, x ∈ (h.apply (.fill c n)).lines c ↔ x = n ∨ x ∈ h.lines c) ∧
      (∀ d, d ≠ c → (h.apply (.fill c n)).lines d = h.lines d) ∧ (h.apply (.fill c n)).llc = h.llc ∧
      (h.apply (.fill c n)).vertex = h.vertex := by
  simp +contextual [Hidden.apply, Hidden.lines_setLines]

/-- A line loaded into the LLC takes the place of the one of its number; the other caches have no part in it. -/
theorem Hidden.apply_fillLlc (h : Hidden) (y : LlcLine) :
    (∀ x, x ∈ (h.apply (.fillLlc y)).llc ↔ x = y ∨ x ∈ h.llc ∧ x.line ≠ y.line) ∧
      (∀ d, (h.apply (.fillLlc y)).lines d = h.lines d) ∧ (h.apply (.fillLlc y)).vertex = h.vertex := by
  refine ⟨fun x => ?_, fun d => by cases d <;> rfl, rfl⟩
  simp [Hidden.apply, or_comm]

theorem Hidden.apply_fillVertex (h : Hidden) (v : VertexCacheEntry) :
    (∀ x, x ∈ (h.apply (.fillVertex v)).vertex ↔ x = v ∨ x ∈ h.vertex ∧ x.vertexIndex ≠ v.vertexIndex) ∧
      (∀ d, (h.apply (.fillVertex v)).lines d = h.lines d) ∧ (h.apply (.fillVertex v)).llc = h.llc := by
  refine ⟨fun x => ?_, fun d => by cases d <;> rfl, rfl⟩
  simp [Hidden.apply, or_comm]

/-- The selective flush takes the lines with GFDT set. -/
theorem Hidden.apply_flushLlcGfdt (h : Hidden) :
    (∀ x, x ∈ (h.apply .flushLlcGfdt).llc ↔ x ∈ h.llc ∧ x.gfdt = false) ∧
      (∀ d, (h.apply .flushLlcGfdt).lines d = h.lines d) ∧ (h.apply .flushLlcGfdt).vertex = h.vertex := by
  refine ⟨fun x => ?_, fun d => by cases d <;> rfl, rfl⟩
  simp [Hidden.apply]

theorem Hidden.apply_empty (h : Hidden) (c : CacheName) :
    (h.apply (.empty c)).lines c = [] ∧ (∀ d, d ≠ c → (h.apply (.empty c)).lines d = h.lines d) ∧
      (h.apply (.empty c)).llc = h.llc ∧ (h.apply (.empty c)).vertex = h.vertex := by
  simp +contextual [Hidden.apply, Hidden.lines_setLines]

/-- Settles O52. -/
theorem onChipEvents : Obligations.OnChipEvents := by
  unfold Obligations.OnChipEvents
  intro s l
  refine ⟨fun k m u hs hu => ?_, fun k u hs hu => ?_, fun h e hs => ?_, fun op hs => ?_⟩
  · refine ⟨u.pushMask m, ?_, rfl, EuThread.pushMask_onChip m, EuThread.pushMask_inScratch m⟩
    rw [step_event hs (by simp), State.perform, State.modifyThread_of_some (s := s.setSchedule l) _ hu]
    rfl
  · rw [step_event hs (by simp), State.perform, State.modifyThread_of_some (s := s.setSchedule l) _ hu]
    rfl
  · refine ⟨(s.setSchedule l).urbWrite h e, ?_, ?_, fun k hk => ?_, rfl⟩
    · rw [step_event hs (by simp), State.perform]
    · rw [State.urbEntry_urbWrite, if_pos rfl]
    · rw [State.urbEntry_urbWrite, if_neg hk]; rfl
  · refine ⟨s.hidden.apply op, ?_, s.hidden.apply_frame op, ?_, ?_, ?_, ?_, ?_⟩
    · rw [step_event hs (by simp), State.perform]; rfl
    · rintro c n rfl; exact s.hidden.apply_fill c n
    · rintro y rfl; exact s.hidden.apply_fillLlc y
    · rintro v rfl; exact s.hidden.apply_fillVertex v
    · rintro rfl; exact s.hidden.apply_flushLlcGfdt
    · rintro c rfl; exact s.hidden.apply_empty c

end Sys2Proof.Machine
end

section
/-! Fetching and decoding one command, and the tables of registers and of the render context image (10_state.md R45, R47,
R62 to R68, R85; 49_logical_context.md R740, R741). -/

namespace Sys2Proof.Machine

/-! ## Idle parsers -/

theorem Parser.idle_iff {p : Parser} :
    p.idle = true ↔ p.ring.valid = false ∨ (p.bb.active = false ∧ p.ring.head = p.ring.tail) := by
  simp [Parser.idle]

theorem stepParser_idle {s : State} (h : (s.parser s.turn).idle = true) : stepParser s = .next s := by
  simp [stepParser, State.fetch, h]

/-- Settles O9. -/
theorem idleParserDoesNotStep : Obligations.IdleParserDoesNotStep := by
  unfold Obligations.IdleParserDoesNotStep
  intro s hs hidle
  rw [step_nil hs]
  exact stepParser_idle (Parser.idle_iff.2 hidle)

/-! ## What the header of a command says of it -/

/-- `j` has the header of `i`: it asks for as many DWords and meets the same checks before them, and is `i` itself where
there are none. -/
structure SameHeader (i j : Instr) : Prop where
  bodyWords : j.bodyWords = i.bodyWords
  beforeBody : ∀ s : State, s.beforeBody j = s.beforeBody i
  eq_of_noBody : i.bodyWords = 0 → j = i

theorem SameHeader.refl (i : Instr) : SameHeader i i := ⟨rfl, fun _ => rfl, fun _ => rfl⟩

/-- The operands of a common command after DW0 do not change its header. -/
theorem decodeCommon_sameHeader {w : Word} {body : List Word} {i : Instr} (h : decodeCommon w body = .ok i) :
    ∃ j, decodeCommon w (List.replicate 9 0) = .ok j ∧ SameHeader i j := by
  unfold decodeCommon at h ⊢
  generalize (field w 16 11).toNat = opcode at h ⊢
  split at h
  case h_5 => cases h; exact ⟨_, rfl, .refl _⟩
  case h_6 => cases h
  all_goals
    split at h
    · cases h; exact ⟨_, rfl, rfl, fun _ => rfl, nofun⟩
    · cases h

/-- The render parser looks beyond DW0 for the common commands alone. -/
theorem decodeRender_body (w : Word) :
    (∀ body, decodeRender w body = decodeCommon w body) ∨
      ∀ body body', decodeRender w body = decodeRender w body' := by
  unfold decodeRender
  generalize (field w 29 3).toNat = client
  generalize (field w 27 2).toNat = subtype
  by_cases h : client = 3 ∧ subtype = 0
  · obtain ⟨rfl, rfl⟩ := h
    exact .inl fun _ => rfl
  · refine .inr fun body body' => ?_
    split
    case h_3 =>
      split
      · exact absurd ⟨rfl, rfl⟩ h
      all_goals rfl
    all_goals rfl

/-- A command decodes from its header alone to one with the same header. -/
theorem decodeHeader_of_decode {e : Engine} {w : Word} {body : List Word} {i : Instr}
    (h : decode e (w :: body) = .ok i) : ∃ j, decodeHeader e w = .ok j ∧ SameHeader i j := by
  cases e with
  | render =>
    change decodeRender w body = .ok i at h
    change ∃ j, decodeRender w (List.replicate 9 0) = .ok j ∧ _
    rcases decodeRender_body w with hc | hc
    · rw [hc] at h ⊢; exact decodeCommon_sameHeader h
    · exact ⟨i, hc _ body ▸ h, .refl i⟩
  | video => exact ⟨i, h, .refl i⟩
  | blitter => exact ⟨i, h, .refl i⟩

/-! ## Fetching -/

/-- The checks made before the operands are fetched are the first that executing the command makes. -/
theorem exec_of_beforeBody {s : State} {i : Instr} {r : Refusal} (h : s.beforeBody i = some r) :
    exec i s = .refused r := by
  unfold State.beforeBody at h
  split at h
  · show execStateBaseAddress _ _ _ _ _ _ _ _ _ _ s = _
    rw [execStateBaseAddress, h, orThen_some, complete_some]
  · show execStateSip _ _ _ s = _
    rw [execStateSip, h, orThen_some, complete_some]
  · show execSwtessBaseAddress _ _ _ _ s = _
    rw [execSwtessBaseAddress, h, orThen_some, complete_some]
  · show execStatePrefetch _ _ _ _ s = _
    rw [execStatePrefetch, h, orThen_some, complete_some]
  · cases h

theorem State.fetch_of_header {s : State} {w : Word} {j : Instr} (hidle : (s.parser s.turn).idle = false)
    (hw : s.readWord s.turn (s.parser s.turn).pc = .ok w) (hj : decodeHeader s.turn w = .ok j) :
    s.fetch = s.fetchBody (s.parser s.turn).pc w j := by
  rw [State.fetch, hidle, hw]
  simp [hj]

/-- What fetching the operands gives, where they can be read and the whole decodes. -/
theorem State.fetchBody_cases {s : State} {a : GraphicsAddress} {w : Word} {body : List Word} {i j : Instr}
    (hij : SameHeader i j) (hbody : s.readWords s.turn (a + 4) i.bodyWords = .ok body)
    (hi : decode s.turn (w :: body) = .ok i) :
    s.fetchBody a w j = .command i ∨ ∃ r, s.beforeBody i = some r ∧ s.fetchBody a w j = .refused r := by
  rw [State.fetchBody, hij.bodyWords, hij.beforeBody, hbody]
  by_cases h0 : i.bodyWords = 0
  · rw [if_pos h0, hij.eq_of_noBody h0]; exact .inl rfl
  · rw [if_neg h0]
    cases hb : s.beforeBody i with
    | none => simp [hi]
    | some r => exact .inr ⟨r, rfl, rfl⟩

/-- Settles O6: the header names the command, and a check that fails before its operands are read is one that executing
the command makes first. -/
theorem stepRunsTheDecodedCommand : Obligations.StepRunsTheDecodedCommand := by
  unfold Obligations.StepRunsTheDecodedCommand
  intro s w body i hs hidle hw hbody hi
  obtain ⟨j, hj, hij⟩ := decodeHeader_of_decode hi
  rw [step_nil hs, stepParser, State.fetch_of_header hidle hw hj]
  rcases State.fetchBody_cases hij hbody hi with h | ⟨r, hr, h⟩
  · rw [h]
  · rw [h, exec_of_beforeBody hr]

/-! ## Tables -/

/-- Settles O51: the closed tables, evaluated row by row in the kernel. -/
theorem registerAndContextTablesAddUp : Obligations.RegisterAndContextTablesAddUp := by
  unfold Obligations.RegisterAndContextTablesAddUp
  refine ⟨⟨?offsetsDistinct, ?offsetsAligned, ?offsetsCounted⟩, ?rowsContiguous, ?imageTotal, ?headerLists⟩
  all_goals decide +kernel

end Sys2Proof.Machine
end

section
/-! Memory as the agents reach it: stores through a table, the command stream a write may not touch, and the accesses
relative to the base addresses (20_memory.md R98, R111 to R116, R131; 70_reset_and_hazards.md R835). -/

namespace Sys2Proof.Assoc

theorem mem_of_find?_eq_some {α : Type} {k : Nat} {v : α} {l : List (Nat × α)} (h : find? k l = some v) :
    (k, v) ∈ l := by
  induction l with
  | nil => cases h
  | cons x rest ih =>
    obtain ⟨j, u⟩ := x
    rw [find?] at h
    split at h
    · subst j; cases h; exact List.mem_cons_self
    · exact List.mem_cons_of_mem _ (ih h)

end Sys2Proof.Assoc

namespace Sys2Proof.Machine

/-! ## Translation -/

@[simp] theorem PageTable.plan_zero (t : PageTable) (a : GraphicsAddress) : t.plan a 0 = .ok [] := rfl

@[simp] theorem State.tableById_unitTable (s : State) : s.tableById s.unitTable = s.tableOf .render := rfl

theorem PageTable.translate_eq_some {t : PageTable} {a : GraphicsAddress} {p : Nat} (h : t.translate a = some p) :
    ∃ e, t.entry? a = some e ∧ p = e.page * 4096 + a.toNat % 4096 := by
  obtain ⟨e, he, rfl⟩ := Option.map_eq_some_iff.1 h
  exact ⟨e, he, rfl⟩

/-- The entry of an address is one of the table's, listed under its PTE inside the aperture. -/
theorem PageTable.entry?_mem {t : PageTable} {a : GraphicsAddress} {e : PageEntry} (h : t.entry? a = some e) :
    pteIndex a < t.size.entries ∧ (pteIndex a, e) ∈ t.entries := by
  unfold PageTable.entry? at h
  split at h
  · exact ⟨‹_›, Assoc.mem_of_find?_eq_some h⟩
  · cases h

theorem ofNat32_add_one (n : Nat) : BitVec.ofNat 32 n + 1 = BitVec.ofNat 32 (n + 1) := (BitVec.ofNat_add n 1).symm

theorem PageTable.plan_succ_ok {t : PageTable} {a : GraphicsAddress} {n : Nat} {ps : List Nat}
    (h : t.plan a (n + 1) = .ok ps) :
    ∃ p qs, t.translate a = some p ∧ t.plan (a + 1) n = .ok qs ∧ ps = p :: qs := by
  simp only [PageTable.plan] at h
  split at h
  · cases h
  · split at h
    · cases h
    · cases h; exact ⟨_, _, ‹_›, ‹_›, rfl⟩

theorem PageTable.plan_succ_error {t : PageTable} {a b : GraphicsAddress} {n : Nat}
    (h : t.plan a (n + 1) = .error b) :
    (t.translate a = none ∧ b = a) ∨ ∃ p, t.translate a = some p ∧ t.plan (a + 1) n = .error b := by
  simp only [PageTable.plan] at h
  split at h
  · cases h; exact .inl ⟨‹_›, rfl⟩
  · split at h
    · cases h; exact .inr ⟨_, ‹_›, ‹_›⟩
    · cases h

/-! ## Taking an event off the schedule changes no table and no live range -/

@[simp] theorem State.setSchedule_tableById (s : State) (l : List Event) (j : TableId) :
    (s.setSchedule l).tableById j = s.tableById j := State.tableById_congr (by simp) (by simp) j

@[simp] theorem State.setSchedule_tableIdOf (s : State) (l : List Event) (e : Engine) :
    (s.setSchedule l).tableIdOf e = s.tableIdOf e := State.tableIdOf_congr (by simp)

@[simp] theorem State.setSchedule_tableOf (s : State) (l : List Event) (e : Engine) :
    (s.setSchedule l).tableOf e = s.tableOf e := by simp [State.tableOf]

@[simp] theorem State.setSchedule_streamModified (s : State) (l : List Event) (pas : List Nat) :
    (s.setSchedule l).streamModified pas = s.streamModified pas := by
  simp [State.streamModified, State.liveFor]

/-! ## Stores -/

theorem State.commit_ok {s : State} {pas : List Nat} {bytes : List Byte} (h : s.streamModified pas = false) :
    s.commit pas bytes = .next (s.setPhys (writePhys s.phys pas bytes)) := if_neg (by simp [h])

theorem State.commit_modified {s : State} {pas : List Nat} {bytes : List Byte} (h : s.streamModified pas = true) :
    s.commit pas bytes = .refused .commandStreamModified := if_pos h

theorem State.storeGfx_of_plan {s : State} {j : TableId} {a : GraphicsAddress} {bytes : List Byte} {pas : List Nat}
    (h : (s.tableById j).plan a bytes.length = .ok pas) : s.storeGfx j a bytes = s.commit pas bytes := by
  rw [State.storeGfx, h]

@[simp] theorem State.setPhys_tableById (s : State) (m : List Host.Cell) (j : TableId) :
    (s.setPhys m).tableById j = s.tableById j := State.tableById_congr (by simp) (by simp) j

/-- Settles O34: the plan that the store wrote through is the one that the reads translate through. -/
theorem storedBytesReadBack : Obligations.StoredBytesReadBack := by
  unfold Obligations.StoredBytesReadBack
  intro s t j a bytes pas hstore hplan hnodup
  obtain ⟨qs, hqs, -, rfl⟩ := State.storeGfx_next hstore
  obtain rfl : qs = pas := Except.ok.inj (hqs.symm.trans hplan)
  refine ⟨fun k hk => ?_, fun p hp => readPhys_writePhys_of_notMem qs bytes s.phys hp, rfl⟩
  have hkq : k < qs.length := by rwa [PageTable.length_plan _ _ _ hplan]
  rw [State.readGfx, State.setPhys_tableById, PageTable.plan_get _ _ _ hplan k hkq, Option.map_some,
    State.setPhys_phys, readPhys_writePhys_get qs bytes s.phys hnodup k hkq hk]

/-! ## The command stream -/

/-- From the head to the tail, or around the ring where the tail lies before the head. -/
theorem Ring.live_iff {r : Ring} {o : Nat} :
    r.live o = true ↔ r.valid = true ∧ ((r.head ≤ o ∧ o < r.tail) ∨
      (r.tail < r.head ∧ ((r.head ≤ o ∧ o < r.length) ∨ o < r.tail))) := by
  unfold Ring.live
  split
  · simp; omega
  · simp; omega

/-- What lies at a live offset of a ring is live for its parser. -/
theorem Parser.live_of_ring {p : Parser} {o : Nat} (ho : o < 4294967296) (h : p.ring.live o = true) :
    p.live (p.ring.start + BitVec.ofNat 32 o) = true := by
  have hoff : (p.ring.start + BitVec.ofNat 32 o - p.ring.start).toNat = o := by
    rw [add_sub_cancel_left, BitVec.toNat_ofNat, Nat.mod_eq_of_lt ho]
  rw [Parser.live, hoff, h, Bool.true_or]

/-- A physical byte is live where a live address of a parser translates to it. -/
theorem State.liveFor_of_translate {s : State} {e : Engine} {a : GraphicsAddress} {pa : Nat}
    (hlive : (s.parser e).live a = true) (h : (s.tableOf e).translate a = some pa) : s.liveFor e pa = true := by
  obtain ⟨x, hx, rfl⟩ := PageTable.translate_eq_some h
  obtain ⟨hin, hmem⟩ := PageTable.entry?_mem hx
  have hpage : x.page = (x.page * 4096 + a.toNat % 4096) / 4096 := by omega
  have haddr : a = BitVec.ofNat 32 (a.toNat / 4096 * 4096 + (x.page * 4096 + a.toNat % 4096) % 4096) := by
    rw [Nat.mul_add_mod_self_right, Nat.mod_mod, Nat.div_add_mod', BitVec.ofNat_toNat, BitVec.setWidth_eq]
  refine List.any_eq_true.2 ⟨_, hmem, ?_⟩
  rw [Bool.and_eq_true, Bool.and_eq_true, decide_eq_true_iff, decide_eq_true_iff]
  exact ⟨⟨hin, hpage⟩, haddr ▸ hlive⟩

theorem State.streamModified_of_liveFor {s : State} {e : Engine} {pa : Nat} {pas : List Nat} (hpa : pa ∈ pas)
    (h : s.liveFor e pa = true) : s.streamModified pas = true := by
  refine List.any_eq_true.2 ⟨pa, hpa, ?_⟩
  cases e <;> simp [h]

/-- Settles O41: the byte is live for the engine of the ring, and a host write that has it in its plan is refused. -/
theorem liveCommandStreamIsProtected : Obligations.LiveCommandStreamIsProtected := by
  unfold Obligations.LiveCommandStreamIsProtected
  intro s e o pa l hvalid ho hrange htrans
  have hlive : s.liveFor e pa = true :=
    State.liveFor_of_translate (Parser.live_of_ring ho (Ring.live_iff.2 ⟨hvalid, hrange⟩)) htrans
  have hrefused {pas : List Nat} (hpa : pa ∈ pas) (bytes : List Byte) :
      (s.setSchedule l).commit pas bytes = .refused .commandStreamModified :=
    State.commit_modified (by simpa using State.streamModified_of_liveFor hpa hlive)
  refine ⟨fun a bytes hs hlo hhi => ?_, fun j a bytes pas hs hplan hpa => ?_⟩
  · rw [step_event hs (by simp), State.perform, State.hostWriteMem]
    exact hrefused (List.mem_range'_1.2 ⟨hlo, hhi⟩) bytes
  · rw [step_event hs (by simp), State.perform, State.hostWriteMem,
      State.storeGfx_of_plan (by simpa using hplan)]
    exact hrefused hpa bytes

/-! ## Effective addresses and bounds -/

theorem Gpe.effectiveAddress_ok {g : Gpe} {k : BaseKind} {v : BitVec 20} {o : Nat} (hv : g.base k = .holds v)
    (h : v.toNat * 4096 + o < 4294967296) : g.effectiveAddress k o = .ok (v.toNat * 4096 + o) := by
  rw [Gpe.effectiveAddress, hv]
  exact if_pos h

theorem Gpe.effectiveAddress_overflow {g : Gpe} {k : BaseKind} {v : BitVec 20} {o : Nat} (hv : g.base k = .holds v)
    (h : 4294967296 ≤ v.toNat * 4096 + o) : g.effectiveAddress k o = .error .addressOverflow := by
  rw [Gpe.effectiveAddress, hv]
  exact if_neg h.not_gt

/-- Settles O43. -/
theorem effectiveAddressIsBasePlusOffset : Obligations.EffectiveAddressIsBasePlusOffset := by
  unfold Obligations.EffectiveAddressIsBasePlusOffset
  exact fun g k b o hb => ⟨Gpe.effectiveAddress_ok hb, Gpe.effectiveAddress_overflow hb⟩

theorem boundDisabled_iff {k : BaseKind} {b : BitVec 20} :
    boundDisabled k b = true ↔ b = 0 ∨ (k = .indirectObject ∧ b = 0xFFFFF) := by
  cases k <;> simp [boundDisabled]

/-- Out of bounds: the bound is in force and the address is not below it. -/
theorem outOfBounds_iff {k : BaseKind} {b : BitVec 20} {a : Nat} :
    outOfBounds k b a = true ↔ ¬ (b = 0 ∨ (k = .indirectObject ∧ b = 0xFFFFF)) ∧ b.toNat * 4096 ≤ a := by
  rw [outOfBounds, Bool.and_eq_true, decide_eq_true_iff, Bool.not_eq_true', ← Bool.not_eq_true, boundDisabled_iff]

theorem Gpe.beyond_of_bound {g : Gpe} {k : BaseKind} {b : BitVec 20} (a : Nat) (hb : g.bound k = some (.holds b)) :
    g.beyond k a = .ok (outOfBounds k b a) := by
  rw [Gpe.beyond, hb]

/-- Settles O44: the address is out of bounds, and each base answers so in its own way. -/
theorem readsBeyondABound : Obligations.ReadsBeyondABound := by
  unfold Obligations.ReadsBeyondABound
  intro s k v b o hv hb hsum hzero hfull hout
  have hbeyond : outOfBounds k b (v.toNat * 4096 + o) = true :=
    outOfBounds_iff.2 ⟨fun hd => hd.elim hzero fun ⟨hk, h⟩ => hfull hk h, hout⟩
  cases k <;> simp only [State.readIndirectByte, Gpe.effectiveAddress_ok hv hsum, Gpe.beyond_of_bound _ hb, hbeyond]

/-- In bounds: no bound goes with the base, or it is disabled, or the address lies below it. -/
theorem Gpe.beyond_eq_false {g : Gpe} {k : BaseKind} {a : Nat}
    (h : k = .surface ∨ ∃ b, g.bound k = some (.holds b) ∧
      (b = 0 ∨ (k = .indirectObject ∧ b = 0xFFFFF) ∨ a < b.toNat * 4096)) : g.beyond k a = .ok false := by
  rcases h with rfl | ⟨b, hb, hin⟩
  · rfl
  · rw [Gpe.beyond_of_bound a hb]
    have hnot : ¬ outOfBounds k b a = true := by
      rw [outOfBounds_iff]
      rintro ⟨hforce, hge⟩
      rcases hin with h | h | h
      · exact hforce (.inl h)
      · exact hforce (.inr h)
      · exact hge.not_gt h
    rw [Bool.eq_false_iff.2 hnot]

/-- Settles O45. -/
theorem readsBelowABound : Obligations.ReadsBelowABound := by
  unfold Obligations.ReadsBelowABound
  intro s k v o hv hsum hbound
  rw [State.readIndirectByte, Gpe.effectiveAddress_ok hv hsum]
  simp only [Gpe.beyond_eq_false hbound, State.unitTable]
  exact ⟨fun c hc => by rw [hc], fun hnone => by rw [hnone]⟩

/-! ## Stateless DataPort writes -/

/-- How many of `len` bytes from address `a` lie below the General State bound, all of them where it is 0
(20_memory.md R112, R113). -/
def bytesBelow (b : BitVec 20) (a len : Nat) : Nat := if b = 0 then len else min len (b.toNat * 4096 - a)

theorem bytesBelow_le (b : BitVec 20) (a len : Nat) : bytesBelow b a len ≤ len := by
  unfold bytesBelow
  split
  · exact le_refl _
  · exact Nat.min_le_left _ _

/-- From an address out of bounds on, no byte lies below the bound. -/
theorem bytesBelow_of_out {b : BitVec 20} {a c : Nat} (len : Nat) (h : outOfBounds .general b a = true)
    (hac : a ≤ c) : bytesBelow b c len = 0 := by
  obtain ⟨hforce, hge⟩ := outOfBounds_iff.1 h
  rw [bytesBelow, if_neg fun hb => hforce (.inl hb)]
  omega

theorem bytesBelow_succ {b : BitVec 20} {a : Nat} (len : Nat) (h : outOfBounds .general b a = false) :
    bytesBelow b a (len + 1) = bytesBelow b (a + 1) len + 1 := by
  unfold bytesBelow
  split
  · rfl
  · have hlt : a < b.toNat * 4096 := by
      by_contra hge
      exact Bool.eq_false_iff.1 h (outOfBounds_iff.2 ⟨by simpa, by omega⟩)
    omega

/-- The plan of those of `len` bytes from address `a` that lie below the General State bound, through the table of the
GPE's units. -/
def State.planBelow (s : State) (b : BitVec 20) (a len : Nat) : Except GraphicsAddress (List Nat) :=
  (s.tableOf .render).plan (BitVec.ofNat 32 a) (bytesBelow b a len)

@[simp] theorem State.setSchedule_planBelow (s : State) (l : List Event) (b : BitVec 20) (a len : Nat) :
    (s.setSchedule l).planBelow b a len = s.planBelow b a len := by simp [State.planBelow]

theorem State.length_planBelow {s : State} {b : BitVec 20} {a len : Nat} {pas : List Nat}
    (h : s.planBelow b a len = .ok pas) : pas.length = bytesBelow b a len := PageTable.length_plan _ _ _ h

@[simp] theorem State.planBelow_zero (s : State) (b : BitVec 20) (a : Nat) : s.planBelow b a 0 = .ok [] := by
  rw [State.planBelow, Nat.le_zero.1 (bytesBelow_le b a 0), PageTable.plan_zero]

theorem State.planBelow_of_out (s : State) {b : BitVec 20} {a c : Nat} (len : Nat)
    (h : outOfBounds .general b a = true) (hac : a ≤ c) : s.planBelow b c len = .ok [] := by
  rw [State.planBelow, bytesBelow_of_out len h hac, PageTable.plan_zero]

theorem State.planBelow_succ_ok {s : State} {b : BitVec 20} {a len : Nat} {pas : List Nat}
    (hin : outOfBounds .general b a = false) (h : s.planBelow b a (len + 1) = .ok pas) :
    ∃ p qs, (s.tableOf .render).translate (BitVec.ofNat 32 a) = some p ∧ s.planBelow b (a + 1) len = .ok qs ∧
      pas = p :: qs := by
  rw [State.planBelow, bytesBelow_succ len hin] at h
  rw [State.planBelow, ← ofNat32_add_one]
  exact PageTable.plan_succ_ok h

theorem State.planBelow_succ_error {s : State} {b : BitVec 20} {a len : Nat} {c : GraphicsAddress}
    (hin : outOfBounds .general b a = false) (h : s.planBelow b a (len + 1) = .error c) :
    ((s.tableOf .render).translate (BitVec.ofNat 32 a) = none ∧ c = BitVec.ofNat 32 a) ∨
      ∃ p, (s.tableOf .render).translate (BitVec.ofNat 32 a) = some p ∧ s.planBelow b (a + 1) len = .error c := by
  rw [State.planBelow, bytesBelow_succ len hin] at h
  rw [State.planBelow, ← ofNat32_add_one]
  exact PageTable.plan_succ_error h

section
variable {s : State} {v b : BitVec 20} (hv : s.gpe.base .general = .holds v)
  (hb : s.gpe.bound .general = some (.holds b))
include hv hb

/-- The plan of a DataPort write pairs the bytes below the bound with their physical addresses, or stops at the first of
them that is not mapped; a byte at the bound or beyond is dropped, whether or not its page is mapped. -/
theorem State.dataPortPlan_eq (bytes : List Byte) (o : Nat) (hsum : v.toNat * 4096 + o + bytes.length ≤ 4294967296) :
    (∀ pas, s.planBelow b (v.toNat * 4096 + o) bytes.length = .ok pas →
      s.dataPortPlan o bytes = .next (pas.zip bytes)) ∧
    (∀ a, s.planBelow b (v.toNat * 4096 + o) bytes.length = .error a →
      s.dataPortPlan o bytes = .fault (.gttError a)) := by
  induction bytes generalizing o with
  | nil => simp [State.dataPortPlan]
  | cons c cs ih =>
    rw [List.length_cons] at hsum
    have ih := ih (o + 1) (by omega)
    rw [← Nat.add_assoc] at ih
    obtain ⟨ihok, iherr⟩ := ih
    rw [List.length_cons, State.dataPortPlan, Gpe.effectiveAddress_ok hv (by omega)]
    cases hout : outOfBounds .general b (v.toNat * 4096 + o) with
    | true =>
      simp only [Gpe.beyond_of_bound _ hb, hout]
      rw [s.planBelow_of_out _ hout (le_refl _)]
      refine ⟨fun pas hpas => ?_, nofun⟩
      obtain rfl := Except.ok.inj hpas
      rw [ihok [] (s.planBelow_of_out _ hout (Nat.le_succ _)), List.zip_nil_left, List.zip_nil_left]
    | false =>
      simp only [Gpe.beyond_of_bound _ hb, hout, State.tableById_unitTable]
      refine ⟨fun pas hpas => ?_, fun a ha => ?_⟩
      · obtain ⟨p, qs, hp, hqs, rfl⟩ := State.planBelow_succ_ok hout hpas
        simp only [hp, ihok qs hqs, List.zip_cons_cons]
      · rcases State.planBelow_succ_error hout ha with ⟨hnone, rfl⟩ | ⟨p, hp, hrest⟩
        · simp only [hnone]
        · simp only [hp, iherr a hrest]

/-- A DataPort write is a write of the bytes below the bound to the addresses of their plan. -/
theorem State.dataPortStore_of_plan {bytes : List Byte} {o : Nat} {pas : List Nat}
    (hsum : v.toNat * 4096 + o + bytes.length ≤ 4294967296)
    (h : s.planBelow b (v.toNat * 4096 + o) bytes.length = .ok pas) :
    s.dataPortStore o bytes = s.commit pas (bytes.take (bytesBelow b (v.toNat * 4096 + o) bytes.length)) := by
  have hlen := State.length_planBelow h
  have hle : pas.length ≤ bytes.length := hlen ▸ bytesBelow_le _ _ _
  have hzip : pas.zip bytes = pas.zip (bytes.take pas.length) := by
    rw [List.zip_eq_zip_take_min, Nat.min_eq_left hle, List.take_length]
  rw [State.dataPortStore, (State.dataPortPlan_eq hv hb bytes o hsum).1 pas h, hzip, ← hlen]
  simp only [List.map_fst_zip, List.map_snd_zip, List.length_take_of_le hle, le_refl]

theorem State.dataPortStore_of_fault {bytes : List Byte} {o : Nat} {a : GraphicsAddress}
    (hsum : v.toNat * 4096 + o + bytes.length ≤ 4294967296)
    (h : s.planBelow b (v.toNat * 4096 + o) bytes.length = .error a) :
    s.dataPortStore o bytes = .fault (.gttError a) := by
  rw [State.dataPortStore, (State.dataPortPlan_eq hv hb bytes o hsum).2 a h]

end

/-- Both events are a DataPort write at the offset they name. -/
theorem step_dataPortStore {s : State} {ev : Event} {o : Nat} {bytes : List Byte} {l : List Event}
    (hs : s.schedule = ev :: l)
    (hev : (∃ w : Word, ev = .dataPortWrite w bytes ∧ o = w.toNat) ∨
      ∃ k f u, ev = .scratchWrite k f bytes ∧ s.threads[k]? = some u ∧ o = u.scratchOffset + f) :
    step s = (s.setSchedule l).dataPortStore o bytes := by
  rcases hev with ⟨w, rfl, rfl⟩ | ⟨k, f, u, rfl, hu, rfl⟩
  · rw [step_event hs (by simp), State.perform, State.dataPortWrite]
  · rw [step_event hs (by simp), State.perform, State.scratchWrite, State.setSchedule_threads, hu]

/-- Settles O46: the statement's `n` is `bytesBelow`, and its plan `planBelow`. -/
theorem writesBeyondTheGeneralBoundAreDropped : Obligations.WritesBeyondTheGeneralBoundAreDropped := by
  unfold Obligations.WritesBeyondTheGeneralBoundAreDropped
  rintro s ev o n bytes l v b hs hev hv hb hsum rfl
  rw [step_dataPortStore hs hev]
  have hbase : (s.setSchedule l).gpe.base .general = .holds v := hv
  have hbound : (s.setSchedule l).gpe.bound .general = some (.holds b) := congrArg some hb
  refine ⟨fun pas hpas => ?_, fun a ha => ?_⟩
  · rw [State.dataPortStore_of_plan hbase hbound hsum ((s.setSchedule_planBelow ..).trans hpas)]
    exact ⟨fun hfree => State.commit_ok (by simpa using hfree),
      fun hlive => State.commit_modified (by simpa using hlive)⟩
  · exact State.dataPortStore_of_fault hbase hbound hsum ((s.setSchedule_planBelow ..).trans ha)

end Sys2Proof.Machine
end

section
/-! What the fields of an encoded header are, and that putting the fields of a DWord side by side again gives the DWord
(30_encoding.md R140 to R149, R163). -/

namespace Sys2Proof

/-! ## The header the encoder writes -/

section Mi
variable (op : BitVec 9) (d : BitVec 23)

theorem client_encodeHeaderMi : field (encodeHeaderMi op d) 29 3 = op.extractLsb' 6 3 :=
  field_encodeHeaderMi_high op d (by decide)

theorem opcode_encodeHeaderMi : field (encodeHeaderMi op d) 23 6 = op.extractLsb' 0 6 :=
  field_encodeHeaderMi_high op d (by decide)

theorem data_encodeHeaderMi : field (encodeHeaderMi op d) 0 23 = d := by
  rw [field_encodeHeaderMi_low op d (by decide), BitVec.extractLsb'_eq_self]

end Mi

section TwoD
variable (op : BitVec 10) (d : BitVec 22)

theorem client_encodeHeader2d : field (encodeHeader2d op d) 29 3 = op.extractLsb' 7 3 :=
  field_encodeHeader2d_high op d (by decide)

theorem opcode_encodeHeader2d : field (encodeHeader2d op d) 22 7 = op.extractLsb' 0 7 :=
  field_encodeHeader2d_high op d (by decide)

theorem data_encodeHeader2d : field (encodeHeader2d op d) 0 22 = d := by
  rw [field_encodeHeader2d_low op d (by decide), BitVec.extractLsb'_eq_self]

end TwoD

section Header16
variable (op d : BitVec 16)

theorem client_encodeHeader16 : field (encodeHeader16 op d) 29 3 = op.extractLsb' 13 3 :=
  field_encodeHeader16_high op d (by decide)

theorem subtype_encodeHeader16 : field (encodeHeader16 op d) 27 2 = op.extractLsb' 11 2 :=
  field_encodeHeader16_high op d (by decide)

theorem opcode_encodeHeader16 : field (encodeHeader16 op d) 16 11 = op.extractLsb' 0 11 :=
  field_encodeHeader16_high op d (by decide)

theorem data_encodeHeader16 : field (encodeHeader16 op d) 0 16 = d := by
  rw [field_encodeHeader16_low op d (by decide), BitVec.extractLsb'_eq_self]

end Header16

/-! ## Fields put side by side -/

/-- Two neighbouring fields are one field. -/
theorem field_append_field (w : Word) {hi lo a b : Nat} (h : hi = lo + b) :
    (field w hi a ++ field w lo b : BitVec (a + b)) = field w lo (a + b) :=
  BitVec.extractLsb'_append_extractLsb'_eq_extractLsb' h

theorem field_full (w : Word) : field w 0 32 = w := BitVec.extractLsb'_eq_self

theorem toNat_field_add (w : Word) (lo a b : Nat) :
    (field w lo (a + b)).toNat = 2 ^ b * (field w (lo + b) a).toNat + (field w lo b).toNat := by
  rw [← field_append_field w rfl, BitVec.toNat_append, ← Nat.shiftLeft_add_eq_or_of_lt (field w lo b).isLt,
    Nat.shiftLeft_eq, Nat.mul_comm]

/-- A DWord is the MI header of its client and opcode over its low bits. -/
theorem encodeHeaderMi_fields {w : Word} {op : BitVec 9}
    (h : op.toNat = 64 * (field w 29 3).toNat + (field w 23 6).toNat) : encodeHeaderMi op (field w 0 23) = w := by
  obtain rfl : op = field w 23 9 := BitVec.eq_of_toNat_eq (h.trans (toNat_field_add w 23 3 6).symm)
  exact (field_append_field w rfl).trans (field_full w)

/-- A DWord is the 2D header of its client and opcode over its low bits. -/
theorem encodeHeader2d_fields {w : Word} {op : BitVec 10}
    (h : op.toNat = 128 * (field w 29 3).toNat + (field w 22 7).toNat) : encodeHeader2d op (field w 0 22) = w := by
  obtain rfl : op = field w 22 10 := BitVec.eq_of_toNat_eq (h.trans (toNat_field_add w 22 3 7).symm)
  exact (field_append_field w rfl).trans (field_full w)

/-- A DWord is the header of its client, sub-type and opcode over its low 16 bits. -/
theorem encodeHeader16_fields {w : Word} {op : BitVec 16}
    (h : op.toNat = 2048 * (4 * (field w 29 3).toNat + (field w 27 2).toNat) + (field w 16 11).toNat) :
    encodeHeader16 op (field w 0 16) = w := by
  obtain rfl : op = field w 16 16 := BitVec.eq_of_toNat_eq <| by
    rw [h, toNat_field_add w 16 5 11, toNat_field_add w 27 3 2]; rfl
  exact (field_append_field w rfl).trans (field_full w)

/-- A DWord is the media header over its low 27 bits where its client is 3 and its sub-type 2. -/
theorem mediaHeader_fields {w : Word} (hc : (field w 29 3).toNat = 3) (ht : (field w 27 2).toNat = 2) :
    (0x0E#5 ++ field w 0 27 : BitVec (5 + 27)) = w := by
  have hop : 0x0E#5 = field w 27 5 := BitVec.eq_of_toNat_eq (by rw [toNat_field_add w 27 3 2, hc, ht]; rfl)
  rw [hop]
  exact (field_append_field w rfl).trans (field_full w)

/-- A DWord with the MFX single-DWord sub-type and no other bit below its client is that command. -/
theorem mfxSingle_fields {w : Word} (hc : (field w 29 3).toNat = 3) (ht : (field w 27 2).toNat = 1)
    (h0 : field w 0 27 = 0) : 0x68000000#32 = w := by
  apply BitVec.eq_of_toNat_eq
  rw [← field_full w, toNat_field_add w 0 5 27, toNat_field_add w 27 3 2, hc, ht, h0]
  rfl

theorem encodeLen_lenHeader {w : Word} {op : BitVec 16}
    (h : op.toNat = 2048 * (4 * (field w 29 3).toNat + (field w 27 2).toNat) + (field w 16 11).toNat) :
    encodeLen op (lenHeader w) = w :=
  (congrArg (encodeHeader16 op) (field_append_field w rfl)).trans (encodeHeader16_fields h)

theorem encodeSbaGeneral_sbaGeneral (w : Word) : encodeSbaGeneral (sbaGeneral w) = w := by
  simp (disch := decide) only [encodeSbaGeneral, sbaGeneral, field_append_field w]
  exact field_full w

theorem encodeSbaBase_sbaBase (w : Word) : encodeSbaBase (sbaBase w) = w := by
  simp (disch := decide) only [encodeSbaBase, sbaBase, field_append_field w]
  exact field_full w

theorem encodeSbaBound_sbaBound (w : Word) : encodeSbaBound (sbaBound w) = w := by
  simp (disch := decide) only [encodeSbaBound, sbaBound, field_append_field w]
  exact field_full w

theorem statePrefetchWord_fields (w : Word) :
    (field w 6 26 ++ field w 3 3 ++ field w 0 3 : BitVec (26 + 3 + 3)) = w := by
  simp (disch := decide) only [field_append_field w]
  exact field_full w

theorem stateSipWord_fields (w : Word) : (field w 4 28 ++ field w 0 4 : BitVec (28 + 4)) = w :=
  (field_append_field w rfl).trans (field_full w)

theorem swtessWord_fields (w : Word) :
    (field w 12 20 ++ field w 8 4 ++ field w 0 8 : BitVec (20 + 4 + 8)) = w := by
  simp (disch := decide) only [field_append_field w]
  exact field_full w

end Sys2Proof
end

section
/-! Every command a parser decodes is encoded by the DWords it was decoded from (30_encoding.md R140 to R149, R163). -/

namespace Sys2Proof

/-- `i` is held by the DWord `w` and the first of the DWords that follow it, no bit of them left out. -/
def HeldBy (w : Word) (body : List Word) (i : Instr) : Prop :=
  i.encodable = true ∧ encode i = w :: body.take i.bodyWords

section
variable {w : Word} {i : Instr}

theorem decodeMi_heldBy (body : List Word) (hc : (field w 29 3).toNat = 0) (h : decodeMi w = .ok i) :
    HeldBy w body i := by
  unfold decodeMi at h
  generalize ho : (field w 23 6).toNat = opcode at h
  split at h
  case h_28 => cases h
  all_goals
    cases h
    exact ⟨rfl, congrArg ([·]) (encodeHeaderMi_fields (by rw [hc, ho]; rfl))⟩

theorem decode2d_heldBy (body : List Word) (hc : (field w 29 3).toNat = 2) (h : decode2d w = .ok i) :
    HeldBy w body i := by
  unfold decode2d at h
  generalize ho : (field w 22 7).toNat = opcode at h
  split at h
  case h_27 => cases h
  all_goals
    cases h
    exact ⟨rfl, congrArg ([·]) (encodeHeader2d_fields (by rw [hc, ho]; rfl))⟩

theorem decodeCommon_heldBy {body : List Word} (hc : (field w 29 3).toNat = 3) (ht : (field w 27 2).toNat = 0)
    (h : decodeCommon w body = .ok i) : HeldBy w body i := by
  unfold decodeCommon at h
  generalize ho : (field w 16 11).toNat = opcode at h
  split at h
  case h_1 =>
    split at h
    · cases h
      exact ⟨rfl, congrArg₂ (· :: [·]) (encodeLen_lenHeader (by rw [hc, ht, ho]; rfl)) (statePrefetchWord_fields _)⟩
    · cases h
  case h_2 =>
    split at h
    · cases h
      refine ⟨rfl, ?_⟩
      change [encodeLen _ _, encodeSbaGeneral _, encodeSbaBase _, encodeSbaBase _, encodeSbaBase _, encodeSbaBase _,
        encodeSbaBound _, encodeSbaBound _, encodeSbaBound _, encodeSbaBound _] = _
      rw [encodeLen_lenHeader (by rw [hc, ht, ho]; rfl)]
      simp only [encodeSbaGeneral_sbaGeneral, encodeSbaBase_sbaBase, encodeSbaBound_sbaBound]
      rfl
    · cases h
  case h_3 =>
    split at h
    · cases h
      exact ⟨rfl, congrArg₂ (· :: [·]) (encodeLen_lenHeader (by rw [hc, ht, ho]; rfl)) (stateSipWord_fields _)⟩
    · cases h
  case h_4 =>
    split at h
    · cases h
      exact ⟨rfl, congrArg₂ (· :: [·]) (encodeLen_lenHeader (by rw [hc, ht, ho]; rfl)) (swtessWord_fields _)⟩
    · cases h
  case h_5 =>
    cases h
    exact ⟨rfl, congrArg ([·]) (encodeHeader16_fields (by rw [hc, ht, ho]; rfl))⟩
  case h_6 => cases h

theorem decodeSingle_heldBy (body : List Word) (hc : (field w 29 3).toNat = 3) (ht : (field w 27 2).toNat = 1)
    (h : decodeSingle w = .ok i) : HeldBy w body i := by
  unfold decodeSingle at h
  generalize ho : (field w 16 11).toNat = opcode at h
  split at h
  · cases h
    have hdata : (field w 2 14 ++ field w 0 2 : BitVec (14 + 2)) = field w 0 16 := field_append_field w rfl
    exact ⟨rfl, congrArg ([·]) ((congrArg _ hdata).trans (encodeHeader16_fields (by rw [hc, ht, ho]; rfl)))⟩
  · cases h

theorem decodeMedia_heldBy (body : List Word) (hc : (field w 29 3).toNat = 3) (ht : (field w 27 2).toNat = 2)
    (h : decodeMedia w = .ok i) : HeldBy w body i := by
  unfold decodeMedia at h
  split at h
  next hop =>
    cases h
    refine ⟨?_, congrArg ([·]) (mediaHeader_fields hc ht)⟩
    exact decide_eq_true ((congrArg BitVec.toNat (BitVec.extractLsb'_extractLsb'_of_le (by decide))).trans_le hop)
  next => cases h

theorem decode3d_heldBy (body : List Word) (hc : (field w 29 3).toNat = 3) (ht : (field w 27 2).toNat = 3)
    (h : decode3d w = .ok i) : HeldBy w body i := by
  unfold decode3d at h
  generalize ho : (field w 16 11).toNat = opcode at h
  split at h
  case h_77 => cases h
  all_goals
    cases h
    exact ⟨rfl, congrArg ([·]) (encodeHeader16_fields (by rw [hc, ht, ho]; rfl))⟩

theorem decodeMfx_heldBy (body : List Word) (hc : (field w 29 3).toNat = 3) (ht : (field w 27 2).toNat = 2)
    (h : decodeMfx w = .ok i) : HeldBy w body i := by
  unfold decodeMfx at h
  generalize ho : (field w 16 11).toNat = opcode at h
  split at h
  case h_26 => cases h
  all_goals
    cases h
    exact ⟨rfl, congrArg ([·]) (encodeHeader16_fields (by rw [hc, ht, ho]; rfl))⟩

theorem decodeMfxSingle_heldBy (body : List Word) (hc : (field w 29 3).toNat = 3) (ht : (field w 27 2).toNat = 1)
    (h : decodeMfxSingle w = .ok i) : HeldBy w body i := by
  unfold decodeMfxSingle at h
  split at h
  next h0 =>
    cases h
    exact ⟨rfl, congrArg ([·]) (mfxSingle_fields hc ht h0)⟩
  next => cases h

theorem decodeRender_heldBy {body : List Word} (h : decodeRender w body = .ok i) : HeldBy w body i := by
  unfold decodeRender at h
  split at h
  next hc => exact decodeMi_heldBy body hc h
  next hc => exact decode2d_heldBy body hc h
  next hc =>
    split at h
    next ht => exact decodeCommon_heldBy hc ht h
    next ht => exact decodeSingle_heldBy body hc ht h
    next ht => exact decodeMedia_heldBy body hc ht h
    next =>
      have hlt : (field w 27 2).toNat < 4 := (field w 27 2).isLt
      exact decode3d_heldBy body hc (by grind) h
  all_goals cases h

theorem decodeVideo_heldBy (body : List Word) (h : decodeVideo w = .ok i) : HeldBy w body i := by
  unfold decodeVideo at h
  split at h
  next hc => exact decodeMi_heldBy body hc h
  next hc =>
    split at h
    next ht => exact decodeMfxSingle_heldBy body hc ht h
    next ht => exact decodeMfx_heldBy body hc ht h
    next => cases h
  next => cases h

theorem decodeBlitter_heldBy (body : List Word) (h : decodeBlitter w = .ok i) : HeldBy w body i := by
  unfold decodeBlitter at h
  split at h
  next hc => exact decodeMi_heldBy body hc h
  next hc => exact decode2d_heldBy body hc h
  next => cases h

end

/-- Settles O3: each decoder's row, with the client and sub-type that lead to it, is the opcode the encoder writes. -/
theorem encodeOfDecodeIsTheWords : Obligations.EncodeOfDecodeIsTheWords := by
  unfold Obligations.EncodeOfDecodeIsTheWords
  intro e w body i h
  cases e with
  | render => exact decodeRender_heldBy h
  | video => exact decodeVideo_heldBy body h
  | blitter => exact decodeBlitter_heldBy body h

end Sys2Proof
end

section
/-! Every command decodes from the DWords the encoder writes (30_encoding.md R140 to R149, R163). -/

namespace Sys2Proof

/-! ## The parser an encoded header is given to -/

theorem decodeRender_encodeHeaderMi {op : BitVec 9} (hc : op.extractLsb' 6 3 = 0) (d : BitVec 23) (body : List Word) :
    decodeRender (encodeHeaderMi op d) body = decodeMi (encodeHeaderMi op d) := by
  rw [decodeRender, client_encodeHeaderMi, hc]
  rfl

theorem decodeRender_encodeHeader2d {op : BitVec 10} (hc : op.extractLsb' 7 3 = 2) (d : BitVec 22) (body : List Word) :
    decodeRender (encodeHeader2d op d) body = decode2d (encodeHeader2d op d) := by
  rw [decodeRender, client_encodeHeader2d, hc]
  rfl

section
variable {op : BitVec 16} (hc : op.extractLsb' 13 3 = 3) (d : BitVec 16)
include hc

theorem decodeRender_encodeHeader16_common (ht : op.extractLsb' 11 2 = 0) (body : List Word) :
    decodeRender (encodeHeader16 op d) body = decodeCommon (encodeHeader16 op d) body := by
  rw [decodeRender, client_encodeHeader16, hc, subtype_encodeHeader16, ht]
  rfl

theorem decodeRender_encodeHeader16_single (ht : op.extractLsb' 11 2 = 1) (body : List Word) :
    decodeRender (encodeHeader16 op d) body = decodeSingle (encodeHeader16 op d) := by
  rw [decodeRender, client_encodeHeader16, hc, subtype_encodeHeader16, ht]
  rfl

theorem decodeRender_encodeHeader16_3d (ht : op.extractLsb' 11 2 = 3) (body : List Word) :
    decodeRender (encodeHeader16 op d) body = decode3d (encodeHeader16 op d) := by
  rw [decodeRender, client_encodeHeader16, hc, subtype_encodeHeader16, ht]
  rfl

theorem decodeVideo_encodeHeader16 (ht : op.extractLsb' 11 2 = 2) :
    decodeVideo (encodeHeader16 op d) = decodeMfx (encodeHeader16 op d) := by
  rw [decodeVideo, client_encodeHeader16, hc, subtype_encodeHeader16, ht]
  rfl

end

/-- The media header is decoded where its opcode is 0 to 2. -/
theorem decodeRender_mediaHeader (d : BitVec 27) (hd : (d.extractLsb' 24 3).toNat ≤ 2) (body : List Word) :
    decodeRender (0x0E#5 ++ d : BitVec (5 + 27)) body = .ok (.mediaSubtype2hUnmapped d) := by
  have high {lo len : Nat} (h : 27 ≤ lo) :
      field (0x0E#5 ++ d : BitVec (5 + 27)) lo len = (0x0E#5).extractLsb' (lo - 27) len :=
    field_append_high (0x0E#5) d _ rfl h
  have low {lo len : Nat} (h : lo + len ≤ 27) :
      field (0x0E#5 ++ d : BitVec (5 + 27)) lo len = d.extractLsb' lo len :=
    field_append_low (0x0E#5) d _ rfl h
  rw [decodeRender, high (by decide), high (by decide)]
  show decodeMedia _ = _
  rw [decodeMedia, low (by decide), if_pos hd, low (by decide), BitVec.extractLsb'_eq_self]

/-! ## Operands in the encoded DWords -/

theorem fields_pipelineSelect (op : BitVec 16) (r : BitVec 14) (p : BitVec 2) :
    field (encodeHeader16 op (r ++ p : BitVec (14 + 2))) 2 14 = r ∧
      field (encodeHeader16 op (r ++ p : BitVec (14 + 2))) 0 2 = p := by
  rw [field_encodeHeader16_low _ _ (by decide), field_encodeHeader16_low _ _ (by decide)]
  exact ⟨BitVec.extractLsb'_append_eq_left, BitVec.extractLsb'_append_eq_right⟩

theorem opcode_encodeLen (op : BitVec 16) (h : LenHeader) : field (encodeLen op h) 16 11 = op.extractLsb' 0 11 :=
  opcode_encodeHeader16 op _

theorem decodeRender_encodeLen {op : BitVec 16} (hc : op.extractLsb' 13 3 = 3) (ht : op.extractLsb' 11 2 = 0)
    (h : LenHeader) (body : List Word) : decodeRender (encodeLen op h) body = decodeCommon (encodeLen op h) body :=
  decodeRender_encodeHeader16_common hc _ ht body

/-- Settles O2: the header names the parser's map (`decodeRender_…`, `decodeVideo_…`), its opcode the row of that map, and
the fields of the row are those the encoder put side by side. -/
theorem decodeOfEncodeIsTheCommand : Obligations.DecodeOfEncodeIsTheCommand := by
  unfold Obligations.DecodeOfEncodeIsTheCommand
  intro i hi
  cases i
  case pipelineSelect r p =>
    show decodeRender (encodeHeader16 _ _) _ = _
    obtain ⟨hr, hp⟩ := fields_pipelineSelect 0x6904#16 r p
    rw [decodeRender_encodeHeader16_single rfl _ rfl, decodeSingle, opcode_encodeHeader16, hr, hp]
    rfl
  case stateBaseAddress h g sf dy ind ins gb db ib nb =>
    show decodeRender (encodeLen _ _) _ = _
    rw [decodeRender_encodeLen rfl rfl, decodeCommon, opcode_encodeLen]
    simp
  case stateSip h p r =>
    show decodeRender (encodeLen _ _) _ = _
    rw [decodeRender_encodeLen rfl rfl, decodeCommon, opcode_encodeLen]
    obtain ⟨hp, hr⟩ := fields_append2 p r (p ++ r : BitVec (28 + 4)) rfl
    simp [hp, hr]
  case swtessBaseAddress h b m r =>
    show decodeRender (encodeLen _ _) _ = _
    rw [decodeRender_encodeLen rfl rfl, decodeCommon, opcode_encodeLen]
    obtain ⟨hb, hm, hr⟩ := fields_append3 b m r (b ++ m ++ r : BitVec (20 + 4 + 8)) rfl
    simp [hb, hm, hr]
  case statePrefetch h p r c =>
    show decodeRender (encodeLen _ _) _ = _
    rw [decodeRender_encodeLen rfl rfl, decodeCommon, opcode_encodeLen]
    obtain ⟨hp, hr, hc⟩ := fields_append3 p r c (p ++ r ++ c : BitVec (26 + 3 + 3)) rfl
    simp [hp, hr, hc]
  case gpgpuCsrBaseAddress d =>
    show decodeRender (encodeHeader16 _ _) _ = _
    rw [decodeRender_encodeHeader16_common rfl _ rfl, decodeCommon, opcode_encodeHeader16, data_encodeHeader16]
    rfl
  case mediaSubtype2hUnmapped d => exact decodeRender_mediaHeader d (of_decide_eq_true hi) []
  case mfxSingleDwUnnamed => rfl
  case miNoop d | miUserInterrupt d | miWaitForEvent d | miOpcode04hUnnamed d | miArbCheck d | miReportHead d
    | miArbOnOff d | miBatchBufferEnd d | miSuspendFlush d | miPredicate d | miTopologyFilter d | miSetAppid d
    | miDisplayFlip d | miSemaphoreMbox d | miSetContext d | miMath d | miStoreDataImm d | miStoreDataIndex d
    | miLoadRegisterImm d | miUpdateGtt d | miStoreRegisterMem d | miFlushDw d | miClflush d
    | miReportPerfCount d | miLoadRegisterMem d | miBatchBufferStart d | miConditionalBatchBufferEnd d =>
    show decodeRender (encodeHeaderMi _ _) _ = _
    rw [decodeRender_encodeHeaderMi rfl, decodeMi, opcode_encodeHeaderMi, data_encodeHeaderMi]
    rfl
  case xySetupBlt d | xySetupClipBlt d | xySetupMonoPatternSlBlt d | xyPixelBlt d | xyScanlinesBlt d
    | xyTextBlt d | xyTextImmediateBlt d | colorBlt d | srcCopyBlt d | xyColorBlt d | xyPatBlt d
    | xyMonoPatBlt d | xySrcCopyBlt d | xyMonoSrcCopyBlt d | xyFullBlt d | xyFullMonoSrcBlt d
    | xyFullMonoPatternBlt d | xyFullMonoPatternMonoSrcBlt d | xyMonoPatFixedBlt d | xyMonoSrcCopyImmediateBlt d
    | xyPatBltImmediate d | xySrcCopyChromaBlt d | xyFullImmediatePatternBlt d
    | xyFullMonoSrcImmediatePatternBlt d | xyPatChromaBlt d | xyPatChromaBltImmediate d =>
    show decodeRender (encodeHeader2d _ _) _ = _
    rw [decodeRender_encodeHeader2d rfl, decode2d, opcode_encodeHeader2d, data_encodeHeader2d]
    rfl
  case mfxPipeModeSelect d | mfxSurfaceState d | mfxPipeBufAddrState d | mfxIndObjBaseAddrState d
    | mfxBspBufBaseAddrState d | mfx005Unnamed d | mfxStatePointer d | mfdItObject d | mfxAvcImgState d
    | mfxAvcQmState d | mfxAvcDirectmodeState d | mfxAvcSliceState d | mfxAvcRefIdxState d
    | mfxAvcWeightoffsetState d | mfdAvcBsdObject d | mfcAvcFqmState d | mfcAvcPakInsertObject d
    | mfcAvcPakObject d | mfxVc1PicState d | mfxVc1PredPipeState d | mfxVc1DirectmodeState d | mfdVc1BsdObject d
    | mfxMpeg2PicState d | mfxMpeg2QmState d | mfdMpeg2BsdObject d =>
    show decodeVideo (encodeHeader16 _ _) = _
    rw [decodeVideo_encodeHeader16 rfl _ rfl, decodeMfx, opcode_encodeHeader16, data_encodeHeader16]
    rfl
  -- The rows of the 3D map are left.
  all_goals
    show decodeRender (encodeHeader16 _ _) _ = _
    rw [decodeRender_encodeHeader16_3d rfl _ rfl, decode3d, opcode_encodeHeader16, data_encodeHeader16]
    rfl

end Sys2Proof
end

section
/-! What no parser map has, and the commands without a body, are refused by name (30_encoding.md R147 to R149, R157, R160,
R161; 43_3d_commands.md R321). -/

namespace Sys2Proof

/-! ## Clients a parser does not have -/

theorem decodeVideo_otherClient {w : Word} (h0 : field w 29 3 ≠ 0) (h3 : field w 29 3 ≠ 3) :
    decodeVideo w = .bad .reservedClient := by
  unfold decodeVideo
  split
  next hc => exact absurd (BitVec.eq_of_toNat_eq hc) h0
  next hc => exact absurd (BitVec.eq_of_toNat_eq hc) h3
  next => rfl

theorem decodeBlitter_otherClient {w : Word} (h0 : field w 29 3 ≠ 0) (h2 : field w 29 3 ≠ 2) :
    decodeBlitter w = .bad .reservedClient := by
  unfold decodeBlitter
  split
  next hc => exact absurd (BitVec.eq_of_toNat_eq hc) h0
  next hc => exact absurd (BitVec.eq_of_toNat_eq hc) h2
  next => rfl

/-- Settles O5. -/
theorem otherClientsAreRejected : Obligations.OtherClientsAreRejected := by
  unfold Obligations.OtherClientsAreRejected
  refine fun w body => ⟨fun h => ?fulsim, fun h => ?reserved, decodeVideo_otherClient, decodeBlitter_otherClient⟩
  case fulsim =>
    show decodeRender w body = _
    rw [decodeRender, h]
    rfl
  case reserved =>
    show decodeRender w body = _
    rcases h with h | h | h | h
    all_goals
      rw [decodeRender, h]
      rfl

end Sys2Proof

namespace Sys2Proof.Machine

/-! ## Headers that decode to no command -/

theorem State.fetch_of_badHeader {s : State} {w : Word} {d : DecodeError} (hidle : (s.parser s.turn).idle = false)
    (hw : s.readWord s.turn (s.parser s.turn).pc = .ok w) (hd : decodeHeader s.turn w = .bad d) :
    s.fetch = .refused (decodeRefusal d) := by
  rw [State.fetch, hidle, hw]
  simp [hd]

/-- Settles O7: the header is decoded before anything after it is read. -/
theorem stepRefusesWhatDoesNotDecode : Obligations.StepRefusesWhatDoesNotDecode := by
  unfold Obligations.StepRefusesWhatDoesNotDecode
  intro s w d hs hidle hw hd
  rw [step_nil hs, stepParser, State.fetch_of_badHeader hidle hw hd]

/-! ## The common commands on the other parsers -/

theorem State.headerChecks_of_admitRender {s : State} {r : Refusal} (hr : admitRender s.turn = some r)
    (h : LenHeader) (legal : BitVec 8) (n : Nat) : s.headerChecks h legal n = some r := by
  rw [State.headerChecks, hr, orThen_some]

/-- The check of the parser is the first that a common command meets. -/
theorem exec_common_of_admitRender {s : State} {i : Instr} {r : Refusal} (hr : admitRender s.turn = some r)
    (hi : (∃ r v, i = .pipelineSelect r v) ∨ (∃ h g a b c d k l m n, i = .stateBaseAddress h g a b c d k l m n) ∨
      (∃ h p r, i = .stateSip h p r) ∨ (∃ h b m r, i = .swtessBaseAddress h b m r) ∨
      (∃ h p r c, i = .statePrefetch h p r c)) : exec i s = .refused r := by
  rcases hi with ⟨_, _, rfl⟩ | ⟨h, _, _, _, _, _, _, _, _, _, rfl⟩ | ⟨h, _, _, rfl⟩ | ⟨h, _, _, _, rfl⟩ |
    ⟨h, _, _, _, rfl⟩
  · show execPipelineSelect _ _ s = _
    rw [execPipelineSelect, hr, orThen_some, complete_some]
  all_goals exact exec_of_beforeBody (State.headerChecks_of_admitRender hr h _ _)

/-- Settles O18. -/
theorem commonCommandsBelongToTheRenderParser : Obligations.CommonCommandsBelongToTheRenderParser := by
  unfold Obligations.CommonCommandsBelongToTheRenderParser
  exact fun s i hi => ⟨fun ht => exec_common_of_admitRender (ht ▸ rfl) hi,
    fun ht => exec_common_of_admitRender (ht ▸ rfl) hi⟩

/-! ## Commands without a body -/

section
variable (m : String) (n : Nat)

theorem refuseBody_admitMi_renderOnly (e : Engine) :
    (e = .render → refuseBody (admitMi .renderOnly e) m n = .refused (.bodyNotInSource m n)) ∧
      (e ≠ .render → refuseBody (admitMi .renderOnly e) m n = .refused .reservedOpcode) := by
  cases e <;> simp [admitMi, refuseBody]

theorem refuseBody_admitMi_notVideo (e : Engine) :
    (e ≠ .video → refuseBody (admitMi .notVideo e) m n = .refused (.bodyNotInSource m n)) ∧
      (e = .video → refuseBody (admitMi .notVideo e) m n = .refused .reservedOpcode) := by
  cases e <;> simp [admitMi, refuseBody]

theorem refuseBody_admit2d (e : Engine) :
    (e ≠ .video → refuseBody (admit2d e) m n = .refused (.bodyNotInSource m n)) ∧
      (e = .video → refuseBody (admit2d e) m n = .refused .reservedClient) := by
  cases e <;> simp [admit2d, refuseBody]

theorem refuseBody_admitRender (e : Engine) :
    (e = .render → refuseBody (admitRender e) m n = .refused (.bodyNotInSource m n)) ∧
      (e = .video → refuseBody (admitRender e) m n = .refused .reservedOpcode) ∧
      (e = .blitter → refuseBody (admitRender e) m n = .refused .reservedClient) := by
  cases e <;> simp [admitRender, refuseBody]

theorem refuseBody_admitMfx (e : Engine) :
    (e = .video → refuseBody (admitMfx e) m n = .refused (.bodyNotInSource m n)) ∧
      (e = .render → refuseBody (admitMfx e) m n = .refused .reservedOpcode) ∧
      (e = .blitter → refuseBody (admitMfx e) m n = .refused .reservedClient) := by
  cases e <;> simp [admitMfx, refuseBody]

variable {s : State}

/-- A check of the pipeline is made on the render parser alone, and there it decides. -/
theorem refuseBody_orThen_admitRender (check : Option Refusal) :
    (∀ a, s.turn = .render → check = a →
        refuseBody (orThen (admitRender s.turn) check) m n = refuseBody a m n) ∧
      (s.turn = .video → refuseBody (orThen (admitRender s.turn) check) m n = .refused .reservedOpcode) ∧
      (s.turn = .blitter → refuseBody (orThen (admitRender s.turn) check) m n = .refused .reservedClient) :=
  ⟨fun _ ht hc => by rw [ht, hc]; rfl, fun ht => by rw [ht]; rfl, fun ht => by rw [ht]; rfl⟩

end

section
variable {s : State}

theorem State.check3d_unset (h : s.gpe.pipelineSelect = .unset) : s.check3d = some .stateNeverWritten := by
  rw [State.check3d, h]

theorem State.check3d_holds_zero (h : s.gpe.pipelineSelect = .holds 0) : s.check3d = none := by
  rw [State.check3d, h]
  rfl

theorem State.check3d_holds_other {v : BitVec 2} (h : s.gpe.pipelineSelect = .holds v) (hv : v ≠ 0) :
    s.check3d = some .wrongPipeline := by
  rw [State.check3d, h]
  exact if_neg hv

theorem State.checkMedia_unset (h : s.gpe.pipelineSelect = .unset) : s.checkMedia = some .stateNeverWritten := by
  rw [State.checkMedia, h]

theorem State.checkMedia_holds_zero (h : s.gpe.pipelineSelect = .holds 0) : s.checkMedia = some .wrongPipeline := by
  rw [State.checkMedia, h]
  rfl

theorem State.checkMedia_holds_other {v : BitVec 2} (h : s.gpe.pipelineSelect = .holds v) (hv : v ≠ 0) :
    s.checkMedia = none := by
  rw [State.checkMedia, h]
  exact if_neg hv

end

/-- Settles O26: each row is refused by `refuseBody`, behind the check of its pipe cells. -/
theorem miCommandsWithoutABodyStop : Obligations.MiCommandsWithoutABodyStop := by
  unfold Obligations.MiCommandsWithoutABodyStop
  refine ⟨?single, ?sized, fun _ _ => refuseBody_none _ _, fun s _ => refuseBody_admitMi_renderOnly _ _ s.turn,
    ?renderOnly, ?notVideo⟩
  case single =>
    intro p hp s d
    have hrow : exec (p.1 d) s = refuseBody (admitMi .every s.turn) p.2 lengthSingle := by fin_cases hp <;> rfl
    exact hrow.trans (refuseBody_none _ _)
  case sized =>
    intro p hp s d
    have hrow : exec (p.1 d) s = refuseBody (admitMi .every s.turn) p.2 (lengthMi d) := by fin_cases hp <;> rfl
    exact hrow.trans (refuseBody_none _ _)
  case renderOnly =>
    intro p hp s d
    have hrow : exec (p.1 d) s = refuseBody (admitMi .renderOnly s.turn) p.2 (lengthMi d) := by fin_cases hp <;> rfl
    rw [hrow]
    exact refuseBody_admitMi_renderOnly _ _ s.turn
  case notVideo =>
    intro p hp s d
    have hrow : exec (p.1 d) s = refuseBody (admitMi .notVideo s.turn) p.2 (lengthMi d) := by fin_cases hp <;> rfl
    rw [hrow]
    exact refuseBody_admitMi_notVideo _ _ s.turn

/-- Settles O27: each row is refused by `refuseBody`, behind the check of its parser. -/
theorem commandsWithoutABodyStop : Obligations.CommandsWithoutABodyStop := by
  unfold Obligations.CommandsWithoutABodyStop
  refine ⟨?twoD, ?common, ?mfx, fun s => refuseBody_admitMfx _ _ s.turn⟩
  case twoD =>
    intro p hp s d
    have hrow : exec (p.1 d) s = refuseBody (admit2d s.turn) p.2 (length2d d) := by fin_cases hp <;> rfl
    rw [hrow]
    exact refuseBody_admit2d _ _ s.turn
  case common =>
    intro p hp s d
    have hrow : exec (p.1 d) s = refuseBody (admitRender s.turn) p.2 (length3d d) := by fin_cases hp <;> rfl
    rw [hrow]
    exact refuseBody_admitRender _ _ s.turn
  case mfx =>
    intro p hp s d
    have hrow : exec (p.1 d) s = refuseBody (admitMfx s.turn) p.2 (lengthMfx d) := by fin_cases hp <;> rfl
    rw [hrow]
    exact refuseBody_admitMfx _ _ s.turn

/-- Settles O29: each row is refused by `refuseBody`, behind the check of its parser and then of its pipeline. -/
theorem pipelineSpecificCommandsStop : Obligations.PipelineSpecificCommandsStop := by
  unfold Obligations.PipelineSpecificCommandsStop
  refine ⟨?threeD, ?media⟩
  case threeD =>
    intro p hp s d
    have hrow : exec (p.1 d) s = refuseBody s.admit3d p.2 (length3d d) := by fin_cases hp <;> rfl
    obtain ⟨hrender, hvideo, hblitter⟩ := refuseBody_orThen_admitRender (s := s) p.2 (length3d d) s.check3d
    rw [hrow]
    exact ⟨fun ht h => hrender _ ht (State.check3d_holds_zero h),
      fun _ ht h hv => hrender _ ht (State.check3d_holds_other h hv),
      fun ht h => hrender _ ht (State.check3d_unset h), hvideo, hblitter⟩
  case media =>
    intro s d
    obtain ⟨hrender, hvideo, hblitter⟩ :=
      refuseBody_orThen_admitRender (s := s) "MEDIA_SUBTYPE_2H_UNMAPPED" (lengthMedia d) s.checkMedia
    exact ⟨fun _ ht h hv => hrender _ ht (State.checkMedia_holds_other h hv),
      fun ht h => hrender _ ht (State.checkMedia_holds_zero h), fun ht h => hrender _ ht (State.checkMedia_unset h),
      hvideo, hblitter⟩

end Sys2Proof.Machine
end

section
/-! The common commands of the render parser: how their headers decode (30_encoding.md R140 to R149, R157;
40_common_commands.md R229). -/

namespace Sys2Proof

/-- The opcode and the sub-opcode, read as one number, determine each other. -/
theorem opcodes_eq_iff (w : Word) (op : BitVec 3) (sub : BitVec 8) :
    (field w 16 11).toNat = 256 * op.toNat + sub.toNat ↔ field w 24 3 = op ∧ field w 16 8 = sub := by
  have hw : (field w 16 11).toNat = 256 * (field w 24 3).toNat + (field w 16 8).toNat := toNat_field_add w 16 3 8
  constructor
  · intro h
    have hsub : (field w 16 8).toNat < 256 := (field w 16 8).isLt
    have hsub' : sub.toNat < 256 := sub.isLt
    exact ⟨BitVec.eq_of_toNat_eq (by omega), BitVec.eq_of_toNat_eq (by omega)⟩
  · rintro ⟨rfl, rfl⟩
    exact hw

section
variable {w : Word} (hc : field w 29 3 = 3)
include hc

theorem decodeRender_common (ht : field w 27 2 = 0) (body : List Word) :
    decodeRender w body = decodeCommon w body := by
  rw [decodeRender, hc, ht]
  rfl

theorem decodeRender_single (ht : field w 27 2 = 1) (body : List Word) : decodeRender w body = decodeSingle w := by
  rw [decodeRender, hc, ht]
  rfl

end

/-! ## The rows of sub-type 0 -/

section
variable {w : Word}

theorem decodeCommon_statePrefetch (h : (field w 16 11).toNat = 0x003) (d : Word) (body : List Word) :
    decodeCommon w (d :: body) = .ok (.statePrefetch (lenHeader w) (field d 6 26) (field d 3 3) (field d 0 3)) := by
  rw [decodeCommon, h]
  rfl

theorem decodeCommon_stateBaseAddress (h : (field w 16 11).toNat = 0x101)
    (d1 d2 d3 d4 d5 d6 d7 d8 d9 : Word) (body : List Word) :
    decodeCommon w (d1 :: d2 :: d3 :: d4 :: d5 :: d6 :: d7 :: d8 :: d9 :: body) =
      .ok (.stateBaseAddress (lenHeader w) (sbaGeneral d1) (sbaBase d2) (sbaBase d3) (sbaBase d4) (sbaBase d5)
        (sbaBound d6) (sbaBound d7) (sbaBound d8) (sbaBound d9)) := by
  rw [decodeCommon, h]
  rfl

theorem decodeCommon_stateSip (h : (field w 16 11).toNat = 0x102) (d : Word) (body : List Word) :
    decodeCommon w (d :: body) = .ok (.stateSip (lenHeader w) (field d 4 28) (field d 0 4)) := by
  rw [decodeCommon, h]
  rfl

theorem decodeCommon_swtessBaseAddress (h : (field w 16 11).toNat = 0x103) (d : Word) (body : List Word) :
    decodeCommon w (d :: body) =
      .ok (.swtessBaseAddress (lenHeader w) (field d 12 20) (field d 8 4) (field d 0 8)) := by
  rw [decodeCommon, h]
  rfl

theorem decodeCommon_gpgpuCsrBaseAddress (h : (field w 16 11).toNat = 0x104) (body : List Word) :
    decodeCommon w body = .ok (.gpgpuCsrBaseAddress (field w 0 16)) := by
  unfold decodeCommon
  rw [h]
  rfl

theorem decodeCommon_reserved (h3 : (field w 16 11).toNat ≠ 0x003)
    (h1 : ¬ (0x101 ≤ (field w 16 11).toNat ∧ (field w 16 11).toNat ≤ 0x104)) (body : List Word) :
    decodeCommon w body = .bad .reservedOpcode := by
  unfold decodeCommon
  split
  case h_6 => rfl
  all_goals omega

/-! ## The row of sub-type 1 -/

theorem decodeSingle_pipelineSelect (h : (field w 16 11).toNat = 0x104) :
    decodeSingle w = .ok (.pipelineSelect (field w 2 14) (field w 0 2)) := by
  rw [decodeSingle, h]
  rfl

theorem decodeSingle_reserved (h : (field w 16 11).toNat ≠ 0x104) : decodeSingle w = .bad .reservedOpcode := by
  unfold decodeSingle
  split
  next hop => exact absurd hop h
  next => rfl

end

/-- Settles O4: the sub-type leads to its map, and opcode and sub-opcode, as one number, to the row of the map. -/
theorem commonCommandSpaceDecodesAsTabled : Obligations.CommonCommandSpaceDecodesAsTabled := by
  unfold Obligations.CommonCommandSpaceDecodesAsTabled
  intro w body hlen hc
  obtain ⟨d1, d2, d3, d4, d5, d6, d7, d8, d9, rest, rfl⟩ :
      ∃ d1 d2 d3 d4 d5 d6 d7 d8 d9 rest, body = d1 :: d2 :: d3 :: d4 :: d5 :: d6 :: d7 :: d8 :: d9 :: rest :=
    match body, hlen with
    | d1 :: d2 :: d3 :: d4 :: d5 :: d6 :: d7 :: d8 :: d9 :: rest, _ => ⟨d1, d2, d3, d4, d5, d6, d7, d8, d9, rest, rfl⟩
  refine ⟨fun ht => ?common, fun ht => ?single⟩
  case common =>
    simp only [decode, decodeRender_common hc ht]
    refine ⟨fun h => ⟨_, _, _, _, decodeCommon_statePrefetch ((opcodes_eq_iff w 0 3).2 h) _ _⟩,
      fun h => ⟨_, _, _, _, _, _, _, _, _, _,
        decodeCommon_stateBaseAddress ((opcodes_eq_iff w 1 1).2 h) _ _ _ _ _ _ _ _ _ _⟩,
      fun h => ⟨_, _, _, decodeCommon_stateSip ((opcodes_eq_iff w 1 2).2 h) _ _⟩,
      fun h => ⟨_, _, _, _, decodeCommon_swtessBaseAddress ((opcodes_eq_iff w 1 3).2 h) _ _⟩,
      fun h => ⟨_, decodeCommon_gpgpuCsrBaseAddress ((opcodes_eq_iff w 1 4).2 h) _⟩,
      fun h3 h1 => decodeCommon_reserved (fun h => h3 ((opcodes_eq_iff w 0 3).1 h)) (fun hop => h1 ?_) _⟩
    -- A sub-opcode is one byte, so a number from 101h to 104h has opcode 1.
    have hw : (field w 16 11).toNat = 256 * (field w 24 3).toNat + (field w 16 8).toNat := toNat_field_add w 16 3 8
    have hsub : (field w 16 8).toNat < 256 := (field w 16 8).isLt
    have hone : (field w 24 3).toNat = 1 := by omega
    exact ⟨BitVec.eq_of_toNat_eq hone, by omega⟩
  case single =>
    simp only [decode, decodeRender_single hc ht]
    exact ⟨fun h => ⟨_, _, decodeSingle_pipelineSelect ((opcodes_eq_iff w 1 4).2 h)⟩,
      fun h => decodeSingle_reserved fun hop => h ((opcodes_eq_iff w 1 4).1 hop)⟩

/-- Settles O1: the decoder evaluated on eleven closed commands. -/
theorem decodesWordsOfTheTables : Obligations.DecodesWordsOfTheTables := by
  unfold Obligations.DecodesWordsOfTheTables
  decide

end Sys2Proof
end

section
/-! The common commands of the render parser: what each is refused for, and what it leaves where it completes
(40_common_commands.md R190 to R225; 30_encoding.md R156; 60_exceptions.md R771, R772). -/

namespace Sys2Proof.Machine

/-! ## The checks every common command shares -/

section
variable {s : State} {h : LenHeader} {legal : BitVec 8} {n : Nat} (ht : s.turn = .render)
include ht

theorem State.advance_of_render (n : Nat) : s.advance n = { s with render := s.render.advance n } := by
  have hadv : s.advance n = s.setParser .render (s.render.advance n) := by rw [State.advance, ht, s.parser_render]
  exact hadv

theorem complete_of_render (n : Nat) : complete none n s = .next { s with render := s.render.advance n } := by
  rw [complete_none, State.advance_of_render ht]

/-- The DWord Length is compared before the tail and the operands are (30_encoding.md R156; 60_exceptions.md R771). -/
theorem State.headerChecks_badLength (hl : h.dwordLength ≠ legal) (n : Nat) :
    s.headerChecks h legal n = some .badLength := by
  rw [State.headerChecks, admitRender_eq_none.2 ht, orThen_none, bne_iff_ne.2 hl, refuseIf_true, orThen_some]

variable (ha : s.render.available n = true)
include ha

theorem State.tailCheck_pass : s.tailCheck n = none :=
  State.tailCheck_eq_none.2 (by rw [ht]; exact ha)

theorem State.headerChecks_pass (hl : h.dwordLength = legal) : s.headerChecks h legal n = none :=
  State.headerChecks_eq_none.2 ⟨ht, hl, by rw [ht]; exact ha⟩

end

/-! ## PIPELINE_SELECT -/

theorem deallocatedByPipelineSelect_contains (i : OpaqueItem) :
    deallocatedByPipelineSelect.contains i = decide (i = .urbAllocation ∨ i = .urbFences ∨ i = .curbe) := by
  simp [deallocatedByPipelineSelect]

theorem State.selectPipeline_eq (s : State) (v : BitVec 2) :
    s.selectPipeline v = { s with
      gpe := { s.gpe with pipelineSelect := .holds v }
      urb := []
      opaqueState := s.opaqueState.filter fun x =>
        !decide (x.item = .urbAllocation ∨ x.item = .urbFences ∨ x.item = .curbe) } := by
  simp only [State.selectPipeline, State.forget, deallocatedByPipelineSelect_contains]
  rfl

/-- Settles O11. -/
theorem pipelineSelectSelects : Obligations.PipelineSelectSelects := by
  unfold Obligations.PipelineSelectSelects
  refine ⟨fun d => ?decodes, fun s r v ht ha => ?executes⟩
  case decodes =>
    show decodeRender _ _ = _
    rw [decodeRender_encodeHeader16_single rfl d rfl, decodeSingle_pipelineSelect (by rw [opcode_encodeHeader16]; rfl),
      field_encodeHeader16_low _ _ (by decide), field_encodeHeader16_low _ _ (by decide)]
  case executes =>
    have hexec : exec (.pipelineSelect r v) s = complete
        (orThen (refuseIf (r != 0) .nonZeroMbz) (refuseIf (v == 3) .reservedValue)) 1 (s.selectPipeline v) := by
      show execPipelineSelect r v s = _
      rw [execPipelineSelect, lengthSingle, admitRender_eq_none.2 ht, State.tailCheck_pass ht ha, orThen_none,
        orThen_none]
    rw [hexec]
    refine ⟨fun hr => ?_, fun hr hv => ?_, fun hr hv => ?_⟩
    · rw [bne_iff_ne.2 hr]; rfl
    · rw [hr, hv]; rfl
    · rw [hr, beq_eq_false_iff_ne.2 hv]
      exact (complete_of_render (s := s.selectPipeline v) ht 1).trans (by rw [s.selectPipeline_eq v])

/-! ## STATE_SIP, SWTESS_BASE_ADDRESS and STATE_PREFETCH -/

/-- Settles O15. -/
theorem stateSipSetsTheSystemPointer : Obligations.StateSipSetsTheSystemPointer := by
  unfold Obligations.StateSipSetsTheSystemPointer
  refine ⟨fun w => ?decodes,
    fun s h p r ht ha => ⟨fun hl => ?badLength, fun hl hz => ?nonZero, fun hl hh hr => ?completes⟩⟩
  case decodes =>
    exact (decodeRender_common (w := 0x61020000) rfl rfl [w]).trans (decodeCommon_stateSip rfl w [])
  case badLength => exact exec_of_beforeBody (State.headerChecks_badLength ht hl 2)
  all_goals
    show execStateSip h p r s = _
    rw [execStateSip, State.headerChecks_pass ht ha hl, orThen_none]
  case nonZero =>
    have hmbz : (h.reserved != 0 || r != 0) = true := by simpa using hz
    rw [hmbz]; rfl
  case completes =>
    rw [hh, hr]
    exact complete_of_render (s := s.setGpe { s.gpe with sip := .holds p }) ht 2

/-- Settles O16. -/
theorem swtessBaseAddressSetsBaseAndControl : Obligations.SwtessBaseAddressSetsBaseAndControl := by
  unfold Obligations.SwtessBaseAddressSetsBaseAndControl
  refine ⟨fun w => ?decodes,
    fun s h b m r ht ha => ⟨fun hl => ?badLength, fun hl hz => ?nonZero, fun hl hh hr hm => ?completes⟩⟩
  case decodes =>
    exact (decodeRender_common (w := 0x61030000) rfl rfl [w]).trans (decodeCommon_swtessBaseAddress rfl w [])
  case badLength => exact exec_of_beforeBody (State.headerChecks_badLength ht hl 2)
  all_goals
    show execSwtessBaseAddress h b m r s = _
    rw [execSwtessBaseAddress, State.headerChecks_pass ht ha hl, orThen_none, mocsReserved]
  case nonZero =>
    have hmbz : (h.reserved != 0 || r != 0 || m.getLsbD 3) = true := by simpa [or_assoc] using hz
    rw [hmbz]; rfl
  case completes =>
    rw [hh, hr, hm]
    exact complete_of_render (s := s.setGpe { s.gpe with swTessBase := .holds b, swTessMocs := .holds m }) ht 2

theorem prefetchOverflows_eq (p : BitVec 26) (c : BitVec 3) :
    prefetchOverflows p c = decide (4294967296 < 64 * p.toNat + 64 * (c.toNat + 1)) := by
  rw [prefetchOverflows, prefetchAddress, Nat.mul_comm p.toNat]
  rfl

/-- Settles O17. -/
theorem statePrefetchOnlyAdvances : Obligations.StatePrefetchOnlyAdvances := by
  unfold Obligations.StatePrefetchOnlyAdvances
  refine ⟨fun w => ?decodes, fun s h p r c ht ha =>
    ⟨fun hl => ?badLength, fun hl hz => ?nonZero, fun hl hh hr hover => ?overflow, fun hl hh hr hfits => ?completes⟩⟩
  case decodes =>
    exact (decodeRender_common (w := 0x60030000) rfl rfl [w]).trans (decodeCommon_statePrefetch rfl w [])
  case badLength => exact exec_of_beforeBody (State.headerChecks_badLength ht hl 2)
  all_goals
    show execStatePrefetch h p r c s = _
    rw [execStatePrefetch, State.headerChecks_pass ht ha hl, orThen_none]
  case nonZero =>
    have hmbz : (h.reserved != 0 || r != 0) = true := by simpa using hz
    rw [hmbz]; rfl
  case overflow =>
    rw [hh, hr, prefetchOverflows_eq, decide_eq_true hover]; rfl
  case completes =>
    rw [hh, hr, prefetchOverflows_eq, decide_eq_false (not_lt.2 hfits)]
    exact complete_of_render ht 2

end Sys2Proof.Machine
end

section
/-! STATE_BASE_ADDRESS: its checks, the variables it updates, and the DWords whose Modify Enable is 0
(40_common_commands.md R200, R201, R210, R211). -/

namespace Sys2Proof.Machine

/-! ## A variable under a Modify Enable bit -/

section
variable {w : Nat} {old : SVar w} {e e' : BitVec 1} {v v' : BitVec w}

theorem SVar.modify_disabled (he : e = 0) : old.modify e v = old := by
  rw [he]
  rfl

theorem SVar.modify_disabled_congr (he : e = 0) (he' : e' = 0) : old.modify e v = old.modify e' v' :=
  (SVar.modify_disabled he).trans (SVar.modify_disabled he').symm

end

/-! ## Reserved bits -/

theorem generalMbz_eq_true {d : SbaGeneral} :
    generalMbz d = true ↔ d.reserved ≠ 0 ∨ d.mocs.getLsbD 3 = true ∨ d.dataPortMocs.getLsbD 3 = true := by
  simp [generalMbz, mocsReserved, or_assoc]

theorem baseMbz_eq_true {d : SbaBase} : baseMbz d = true ↔ d.reserved ≠ 0 ∨ d.mocs.getLsbD 3 = true := by
  simp [baseMbz, mocsReserved]

theorem boundMbz_eq_true {d : SbaBound} : boundMbz d = true ↔ d.reserved ≠ 0 := by
  simp [boundMbz]

section
variable {d : SbaGeneral} {b : SbaBase} {k : SbaBound}

theorem generalMbz_of_zero (hr : d.reserved = 0) (hm : d.mocs.getLsbD 3 = false)
    (hp : d.dataPortMocs.getLsbD 3 = false) : generalMbz d = false := by
  rw [generalMbz, mocsReserved, mocsReserved, hr, hm, hp]
  rfl

theorem baseMbz_of_zero (hr : b.reserved = 0) (hm : b.mocs.getLsbD 3 = false) : baseMbz b = false := by
  rw [baseMbz, mocsReserved, hr, hm]
  rfl

theorem boundMbz_of_zero (hr : k.reserved = 0) : boundMbz k = false := by
  rw [boundMbz, hr]
  rfl

end

/-- A reserved bit of the ten DWords is 1 (40_common_commands.md R200, R201). -/
def sbaMbz (h : LenHeader) (g : SbaGeneral) (sf dy ind ins : SbaBase) (gb db ib nb : SbaBound) : Bool :=
  h.reserved != 0 || generalMbz g || baseMbz sf || baseMbz dy || baseMbz ind || baseMbz ins || boundMbz gb ||
    boundMbz db || boundMbz ib || boundMbz nb

theorem sbaMbz_eq_false {h : LenHeader} {g : SbaGeneral} {sf dy ind ins : SbaBase} {gb db ib nb : SbaBound} :
    sbaMbz h g sf dy ind ins gb db ib nb = false ↔
      h.reserved = 0 ∧ generalMbz g = false ∧ baseMbz sf = false ∧ baseMbz dy = false ∧ baseMbz ind = false ∧
        baseMbz ins = false ∧ boundMbz gb = false ∧ boundMbz db = false ∧ boundMbz ib = false ∧
        boundMbz nb = false := by
  simp only [sbaMbz, Bool.or_eq_false_iff, bne_eq_false_iff_eq, and_assoc]

/-! ## Bounds and bases -/

theorem boundNotAbove_eq_true {k : BaseKind} {bound base : SVar 20} :
    boundNotAbove k bound base = true ↔
      ∃ b a, bound = .holds b ∧ base = .holds a ∧ boundDisabled k b = false ∧ b.toNat ≤ a.toNat := by
  cases bound <;> cases base <;> simp [boundNotAbove]

theorem boundDisabled_indirectObject {b : BitVec 20} :
    boundDisabled .indirectObject b = false ↔ b ≠ 0 ∧ b ≠ 0xFFFFF := by
  simp [boundDisabled]

theorem boundDisabled_instruction {b : BitVec 20} : boundDisabled .instruction b = false ↔ b ≠ 0 := by
  simp [boundDisabled]

/-- A bound in force that is not above its base, of the two that are compared. -/
theorem Gpe.boundsViolated_eq_true {v : Gpe} :
    v.boundsViolated = true ↔ ∃ b a,
      (v.indirectObjectBound = .holds b ∧ v.indirectObjectBase = .holds a ∧ b ≠ 0 ∧ b ≠ 0xFFFFF ∧ b.toNat ≤ a.toNat) ∨
      (v.instructionBound = .holds b ∧ v.instructionBase = .holds a ∧ b ≠ 0 ∧ b.toNat ≤ a.toNat) := by
  simp only [Gpe.boundsViolated, Bool.or_eq_true, boundNotAbove_eq_true, boundDisabled_indirectObject,
    boundDisabled_instruction, and_assoc, exists_or]

theorem Gpe.basesDiffer_eq_false {g v : Gpe} :
    g.basesDiffer v = false ↔
      v.generalStateBase = g.generalStateBase ∧ v.surfaceStateBase = g.surfaceStateBase ∧
        v.dynamicStateBase = g.dynamicStateBase ∧ v.indirectObjectBase = g.indirectObjectBase ∧
        v.instructionBase = g.instructionBase := by
  simp only [Gpe.basesDiffer, Bool.or_eq_false_iff, decide_eq_false_iff_not, not_not, and_assoc,
    @eq_comm _ g.generalStateBase, @eq_comm _ g.surfaceStateBase, @eq_comm _ g.dynamicStateBase,
    @eq_comm _ g.indirectObjectBase, @eq_comm _ g.instructionBase]

theorem State.rebase_eq_ite (s : State) (v : Gpe) :
    s.rebase v = { s with
      gpe := v
      opaqueState :=
        if v.generalStateBase = s.gpe.generalStateBase ∧ v.surfaceStateBase = s.gpe.surfaceStateBase ∧
          v.dynamicStateBase = s.gpe.dynamicStateBase ∧ v.indirectObjectBase = s.gpe.indirectObjectBase ∧
          v.instructionBase = s.gpe.instructionBase then s.opaqueState
        else s.opaqueState.filter fun x => !staleAfterBaseChange.contains x.item } := by
  cases hd : s.gpe.basesDiffer v with
  | false =>
    rw [State.rebase, hd, if_pos (Gpe.basesDiffer_eq_false.1 hd)]
    rfl
  | true =>
    rw [State.rebase, hd, if_neg (mt Gpe.basesDiffer_eq_false.2 (by simp [hd]))]
    rfl

/-! ## The command -/

section
variable {s : State} {h : LenHeader} {g : SbaGeneral} {sf dy ind ins : SbaBase} {gb db ib nb : SbaBound}

theorem exec_stateBaseAddress :
    exec (.stateBaseAddress h g sf dy ind ins gb db ib nb) s =
      complete (orThen (s.headerChecks h 8 10) (orThen (refuseIf (sbaMbz h g sf dy ind ins gb db ib nb) .nonZeroMbz)
        (refuseIf (s.gpe.updateBases g sf dy ind ins gb db ib nb).boundsViolated .boundNotAboveBase)))
        10 (s.rebase (s.gpe.updateBases g sf dy ind ins gb db ib nb)) := rfl

variable (ht : s.turn = .render)
include ht

theorem exec_stateBaseAddress_badLength (hl : h.dwordLength ≠ 8) :
    exec (.stateBaseAddress h g sf dy ind ins gb db ib nb) s = .refused .badLength :=
  exec_of_beforeBody (State.headerChecks_badLength ht hl 10)

variable (ha : s.render.available 10 = true) (hl : h.dwordLength = 8)
include ha hl

theorem exec_stateBaseAddress_nonZeroMbz (hz : sbaMbz h g sf dy ind ins gb db ib nb = true) :
    exec (.stateBaseAddress h g sf dy ind ins gb db ib nb) s = .refused .nonZeroMbz := by
  rw [exec_stateBaseAddress, State.headerChecks_pass ht ha hl, orThen_none, hz]
  rfl

variable (hz : sbaMbz h g sf dy ind ins gb db ib nb = false)
include hz

theorem exec_stateBaseAddress_boundNotAboveBase
    (hb : (s.gpe.updateBases g sf dy ind ins gb db ib nb).boundsViolated = true) :
    exec (.stateBaseAddress h g sf dy ind ins gb db ib nb) s = .refused .boundNotAboveBase := by
  rw [exec_stateBaseAddress, State.headerChecks_pass ht ha hl, orThen_none, hz, hb]
  rfl

theorem exec_stateBaseAddress_completes
    (hb : (s.gpe.updateBases g sf dy ind ins gb db ib nb).boundsViolated = false) :
    exec (.stateBaseAddress h g sf dy ind ins gb db ib nb) s =
      complete none 10 (s.rebase (s.gpe.updateBases g sf dy ind ins gb db ib nb)) := by
  rw [exec_stateBaseAddress, State.headerChecks_pass ht ha hl, orThen_none, hz, hb]
  rfl

end

/-- Settles O12: with every check passed, the command writes `updateBases` through `rebase` and its head moves. -/
theorem stateBaseAddressUpdatesEnabledVariables : Obligations.StateBaseAddressUpdatesEnabledVariables := by
  unfold Obligations.StateBaseAddressUpdatesEnabledVariables
  intro s g sf dy ind ins gb db ib nb v ht ha hg hgm hgp hsf hsfm hdy hdym hind hindm hins hinsm hgb hdb hib hnb hv
    hindirect hinstruction
  have hmbz : sbaMbz ⟨0, 8⟩ g sf dy ind ins gb db ib nb = false :=
    sbaMbz_eq_false.2 ⟨rfl, generalMbz_of_zero hg hgm hgp, baseMbz_of_zero hsf hsfm, baseMbz_of_zero hdy hdym,
      baseMbz_of_zero hind hindm, baseMbz_of_zero hins hinsm, boundMbz_of_zero hgb, boundMbz_of_zero hdb,
      boundMbz_of_zero hib, boundMbz_of_zero hnb⟩
  have hupdate : s.gpe.updateBases g sf dy ind ins gb db ib nb = v := hv.symm
  have hbounds : (s.gpe.updateBases g sf dy ind ins gb db ib nb).boundsViolated = false := by
    rw [hupdate, Bool.eq_false_iff, ne_eq, Gpe.boundsViolated_eq_true]
    rintro ⟨b, a, ⟨hb, hbase, h0, hF, hle⟩ | ⟨hb, hbase, h0, hle⟩⟩
    · rcases hindirect b a hb hbase with h | h | h
      · exact h0 h
      · exact hF h
      · omega
    · rcases hinstruction b a hb hbase with h | h
      · exact h0 h
      · omega
  rw [exec_stateBaseAddress_completes ht ha rfl hmbz hbounds, hupdate,
    complete_of_render (s := s.rebase v) (by rw [State.rebase_turn, ht]), s.rebase_eq_ite v]

/-- Settles O13: the bounds are compared last. -/
theorem stateBaseAddressRefusesBoundNotAboveBase : Obligations.StateBaseAddressRefusesBoundNotAboveBase := by
  unfold Obligations.StateBaseAddressRefusesBoundNotAboveBase
  intro s g sf dy ind ins gb db ib nb v b a ht ha hg hgm hgp hsf hsfm hdy hdym hind hindm hins hinsm hgb hdb hib hnb hv
    hnotAbove
  have hmbz : sbaMbz ⟨0, 8⟩ g sf dy ind ins gb db ib nb = false :=
    sbaMbz_eq_false.2 ⟨rfl, generalMbz_of_zero hg hgm hgp, baseMbz_of_zero hsf hsfm, baseMbz_of_zero hdy hdym,
      baseMbz_of_zero hind hindm, baseMbz_of_zero hins hinsm, boundMbz_of_zero hgb, boundMbz_of_zero hdb,
      boundMbz_of_zero hib, boundMbz_of_zero hnb⟩
  have hupdate : s.gpe.updateBases g sf dy ind ins gb db ib nb = v := hv.symm
  exact exec_stateBaseAddress_boundNotAboveBase ht ha rfl hmbz
    (hupdate ▸ Gpe.boundsViolated_eq_true.2 ⟨b, a, hnotAbove⟩)

/-! ## DWords whose Modify Enable is 0 -/

/-- Two DW1 that STATE_BASE_ADDRESS cannot tell apart: the same check of reserved bits, the same updates. -/
structure GeneralAgrees (g g' : SbaGeneral) : Prop where
  mbz : generalMbz g = generalMbz g'
  base (v : SVar 20) : v.modify g.modifyEnable g.base = v.modify g'.modifyEnable g'.base
  mocs (v : SVar 4) : v.modify g.modifyEnable g.mocs = v.modify g'.modifyEnable g'.mocs
  dataPortMocs (v : SVar 4) : v.modify g.modifyEnable g.dataPortMocs = v.modify g'.modifyEnable g'.dataPortMocs
  forceWriteThru (v : SVar 1) : v.modify g.modifyEnable g.forceWriteThru = v.modify g'.modifyEnable g'.forceWriteThru

/-- Two DWords of DW2 to DW5 that STATE_BASE_ADDRESS cannot tell apart. -/
structure BaseAgrees (b b' : SbaBase) : Prop where
  mbz : baseMbz b = baseMbz b'
  base (v : SVar 20) : v.modify b.modifyEnable b.base = v.modify b'.modifyEnable b'.base
  mocs (v : SVar 4) : v.modify b.modifyEnable b.mocs = v.modify b'.modifyEnable b'.mocs

/-- Two DWords of DW6 to DW9 that STATE_BASE_ADDRESS cannot tell apart. -/
structure BoundAgrees (k k' : SbaBound) : Prop where
  mbz : boundMbz k = boundMbz k'
  bound (v : SVar 20) : v.modify k.modifyEnable k.bound = v.modify k'.modifyEnable k'.bound

theorem GeneralAgrees.refl (g : SbaGeneral) : GeneralAgrees g g :=
  ⟨rfl, fun _ => rfl, fun _ => rfl, fun _ => rfl, fun _ => rfl⟩

theorem BaseAgrees.refl (b : SbaBase) : BaseAgrees b b := ⟨rfl, fun _ => rfl, fun _ => rfl⟩

theorem BoundAgrees.refl (k : SbaBound) : BoundAgrees k k := ⟨rfl, fun _ => rfl⟩

theorem GeneralAgrees.of_disabled {g g' : SbaGeneral} (he : g.modifyEnable = 0) (he' : g'.modifyEnable = 0)
    (hz : generalMbz g = generalMbz g') : GeneralAgrees g g' :=
  ⟨hz, fun _ => SVar.modify_disabled_congr he he', fun _ => SVar.modify_disabled_congr he he',
    fun _ => SVar.modify_disabled_congr he he', fun _ => SVar.modify_disabled_congr he he'⟩

theorem BaseAgrees.of_disabled {b b' : SbaBase} (he : b.modifyEnable = 0) (he' : b'.modifyEnable = 0)
    (hz : baseMbz b = baseMbz b') : BaseAgrees b b' :=
  ⟨hz, fun _ => SVar.modify_disabled_congr he he', fun _ => SVar.modify_disabled_congr he he'⟩

theorem BoundAgrees.of_disabled {k k' : SbaBound} (he : k.modifyEnable = 0) (he' : k'.modifyEnable = 0)
    (hz : boundMbz k = boundMbz k') : BoundAgrees k k' :=
  ⟨hz, fun _ => SVar.modify_disabled_congr he he'⟩

section
variable {g g' : SbaGeneral} {sf sf' dy dy' ind ind' ins ins' : SbaBase} {gb gb' db db' ib ib' nb nb' : SbaBound}

/-- The command depends on its nine DWords only through the checks and updates that `…Agrees` compares. -/
theorem exec_stateBaseAddress_congr (s : State) (h : LenHeader) (hg : GeneralAgrees g g' := by exact .refl _)
    (hsf : BaseAgrees sf sf' := by exact .refl _) (hdy : BaseAgrees dy dy' := by exact .refl _)
    (hind : BaseAgrees ind ind' := by exact .refl _) (hins : BaseAgrees ins ins' := by exact .refl _)
    (hgb : BoundAgrees gb gb' := by exact .refl _) (hdb : BoundAgrees db db' := by exact .refl _)
    (hib : BoundAgrees ib ib' := by exact .refl _) (hnb : BoundAgrees nb nb' := by exact .refl _) :
    exec (.stateBaseAddress h g sf dy ind ins gb db ib nb) s =
      exec (.stateBaseAddress h g' sf' dy' ind' ins' gb' db' ib' nb') s := by
  have hmbz : sbaMbz h g sf dy ind ins gb db ib nb = sbaMbz h g' sf' dy' ind' ins' gb' db' ib' nb' := by
    simp only [sbaMbz, hg.mbz, hsf.mbz, hdy.mbz, hind.mbz, hins.mbz, hgb.mbz, hdb.mbz, hib.mbz, hnb.mbz]
  have hupdate : s.gpe.updateBases g sf dy ind ins gb db ib nb =
      s.gpe.updateBases g' sf' dy' ind' ins' gb' db' ib' nb' := by
    simp only [Gpe.updateBases, hg.base, hg.mocs, hg.dataPortMocs, hg.forceWriteThru, hsf.base, hsf.mocs, hdy.base,
      hdy.mocs, hind.base, hind.mocs, hins.base, hins.mocs, hgb.bound, hdb.bound, hib.bound, hnb.bound]
  rw [exec_stateBaseAddress, exec_stateBaseAddress, hmbz, hupdate]

end

/-- Settles O14: a disabled DWord updates nothing (`SVar.modify_disabled`), its reserved bits are checked with the others,
and the rest of it the command cannot see (`exec_stateBaseAddress_congr`). -/
theorem disabledDWordsOfStateBaseAddress : Obligations.DisabledDWordsOfStateBaseAddress := by
  unfold Obligations.DisabledDWordsOfStateBaseAddress
  refine ⟨?kept, fun _ _ _ _ _ _ _ _ _ _ _ ht hl => exec_stateBaseAddress_badLength ht hl, ?checked, ?unseen⟩
  case kept =>
    intro s t h g sf dy ind ins gb db ib nb hx
    obtain ⟨-, -, -, -, rfl⟩ := execStateBaseAddress_next hx
    simp only [State.advance_gpe, State.rebase_gpe, Gpe.updateBases]
    and_intros
    all_goals
      intro he
      simp only [SVar.modify_disabled he, and_self]
  case checked =>
    intro s h g sf dy ind ins gb db ib nb ht ha hl hz
    refine exec_stateBaseAddress_nonZeroMbz ht ha hl ?_
    simp only [sbaMbz, Bool.or_eq_true, bne_iff_ne, generalMbz_eq_true, baseMbz_eq_true, boundMbz_eq_true]
    tauto
  case unseen =>
    intro s h g g' b b' k k' hge hge' hgr hgr' hgm hgm' hgp hgp' hbe hbe' hbr hbr' hbm hbm' hke hke' hkr hkr'
      sf dy ind ins gb db ib nb
    have hg : GeneralAgrees g g' :=
      .of_disabled hge hge' ((generalMbz_of_zero hgr hgm hgp).trans (generalMbz_of_zero hgr' hgm' hgp').symm)
    have hb : BaseAgrees b b' :=
      .of_disabled hbe hbe' ((baseMbz_of_zero hbr hbm).trans (baseMbz_of_zero hbr' hbm').symm)
    have hk : BoundAgrees k k' := .of_disabled hke hke' ((boundMbz_of_zero hkr).trans (boundMbz_of_zero hkr').symm)
    exact ⟨exec_stateBaseAddress_congr s h (hg := hg),
      exec_stateBaseAddress_congr s h (hsf := hb),
      exec_stateBaseAddress_congr s h (hdy := hb),
      exec_stateBaseAddress_congr s h (hind := hb),
      exec_stateBaseAddress_congr s h (hins := hb),
      exec_stateBaseAddress_congr s h (hgb := hk),
      exec_stateBaseAddress_congr s h (hdb := hk),
      exec_stateBaseAddress_congr s h (hib := hk),
      exec_stateBaseAddress_congr s h (hnb := hk)⟩

end Sys2Proof.Machine
end

section
/-! The Memory Interface commands that complete: what MI_NOOP and MI_USER_INTERRUPT do and are refused for, and that
no command but MI_REPORT_HEAD stores (41_mi_commands.md R230, R231, R235; 49_logical_context.md R750;
60_exceptions.md R772, R781, R784). -/

namespace Sys2Proof.Machine

/-! ## The checks of the commands whose one form is all-zero -/

section
variable {s : State} {d : BitVec 23} (m : String)

theorem State.plainMiChecks_nonzero (hd : d ≠ 0) : s.plainMiChecks m d = some (.bodyNotInSource m 1) := by
  rw [State.plainMiChecks, admitMi_every, orThen_none, bne_iff_ne.2 hd, refuseIf_true, orThen_some, lengthSingle]

theorem State.plainMiChecks_pass (hd : d = 0) (ha : (s.parser s.turn).available 1 = true) :
    s.plainMiChecks m d = none := State.plainMiChecks_eq_none.2 ⟨hd, ha⟩

theorem State.optionalMiChecks_refused {accepts : Bool} (h : accepts = false ∨ d ≠ 0) :
    s.optionalMiChecks accepts m d = some (.bodyNotInSource m 1) := by
  cases accepts with
  | false => rfl
  | true =>
    have hd : d ≠ 0 := h.resolve_left (by decide)
    rw [State.optionalMiChecks, Bool.not_true, refuseIf_false, orThen_none, State.plainMiChecks_nonzero m hd]

theorem State.optionalMiChecks_pass {accepts : Bool} (hacc : accepts = true) (hd : d = 0)
    (ha : (s.parser s.turn).available 1 = true) : s.optionalMiChecks accepts m d = none :=
  State.optionalMiChecks_eq_none.2 ⟨hacc, hd, ha⟩

end

/-! ## MI_NOOP and MI_USER_INTERRUPT -/

/-- Settles O22. -/
theorem miNoopOnlyAdvances : Obligations.MiNoopOnlyAdvances := by
  unfold Obligations.MiNoopOnlyAdvances
  refine fun s d => ⟨fun hd => ?nonzero, fun hd ha => ?completes⟩
  all_goals
    show execMiNoop d s = _
    rw [execMiNoop]
  case nonzero => rw [State.plainMiChecks_nonzero _ hd, complete_some]
  case completes => rw [State.plainMiChecks_pass _ hd ha, complete_none, lengthSingle, State.advance]

/-- The trace and the parsers are separate parts of the state. -/
theorem State.setParser_pushInterrupt (s : State) (v : HostInterrupt) (e : Engine) (p : Parser) :
    (s.pushInterrupt v).setParser e p = { s.setParser e p with interrupts := s.interrupts ++ [v] } := by
  cases e <;> rfl

theorem State.advance_pushInterrupt (s : State) (v : HostInterrupt) (n : Nat) :
    (s.pushInterrupt v).advance n =
      { s.setParser s.turn ((s.parser s.turn).advance n) with interrupts := s.interrupts ++ [v] } := by
  rw [State.advance, State.pushInterrupt_turn, State.pushInterrupt_parser, State.setParser_pushInterrupt]

/-- Settles O23. -/
theorem userInterruptAppendsToTheTrace : Obligations.UserInterruptAppendsToTheTrace := by
  unfold Obligations.UserInterruptAppendsToTheTrace
  refine fun s d => ⟨fun h => ?refused, fun hacc hd ha => ?completes⟩
  all_goals
    show execMiUserInterrupt d s = _
    rw [execMiUserInterrupt]
  case refused => rw [State.optionalMiChecks_refused _ h, complete_some]
  case completes =>
    rw [State.optionalMiChecks_pass _ hacc hd ha, complete_none, lengthSingle, State.advance_pushInterrupt]

/-! ## What is stored -/

namespace Completes
variable {s w : State} {i : Instr} {n : Nat} (h : Completes s i n w)
include h

theorem gtt_eq : w.gtt = s.gtt := by
  cases h with
  | stateBaseAddress => exact State.rebase_gtt _ _
  | _ => rfl

theorem phys_eq (hi : ∀ d, i ≠ .miReportHead d) : w.phys = s.phys := by
  cases h with
  | miReportHead => exact absurd rfl (hi _)
  | stateBaseAddress => exact State.rebase_phys _ _
  | _ => rfl

theorem freeCounter_eq (hi : ∀ d, i ≠ .miReportHead d) : w.freeCounter = s.freeCounter := by
  cases h with
  | miReportHead => exact absurd rfl (hi _)
  | stateBaseAddress => exact State.rebase_freeCounter _ _
  | _ => rfl

theorem interrupts_eq (hi : ∀ d, i ≠ .miUserInterrupt d) : w.interrupts = s.interrupts := by
  cases h with
  | miUserInterrupt => exact absurd rfl (hi _)
  | stateBaseAddress => exact State.rebase_interrupts _ _
  | _ => rfl

end Completes

section
variable {i : Instr} {s t : State} (hx : exec i s = .next t)
include hx

theorem exec_phys (hi : ∀ d, i ≠ .miReportHead d) : t.phys = s.phys := by
  obtain ⟨n, w, hw, -, rfl⟩ := exec_completes hx
  rw [State.advance_phys, hw.phys_eq hi]

theorem exec_freeCounter (hi : ∀ d, i ≠ .miReportHead d) : t.freeCounter = s.freeCounter := by
  obtain ⟨n, w, hw, -, rfl⟩ := exec_completes hx
  rw [State.advance_freeCounter, hw.freeCounter_eq hi]

theorem exec_interrupts (hi : ∀ d, i ≠ .miUserInterrupt d) : t.interrupts = s.interrupts := by
  obtain ⟨n, w, hw, -, rfl⟩ := exec_completes hx
  rw [State.advance_interrupts, hw.interrupts_eq hi]

/-- No command writes a translation table: what a Graphics Address reads changes with physical memory alone. -/
theorem exec_readGfx (hm : t.phys = s.phys) (j : TableId) (a : GraphicsAddress) : t.readGfx j a = s.readGfx j a := by
  obtain ⟨n, w, hw, -, rfl⟩ := exec_completes hx
  obtain ⟨-, hparser⟩ := hw.parser_eq
  exact State.readGfx_congr (by rw [State.advance_gtt, hw.gtt_eq])
    (fun e => by rw [State.advance_parser_ppgtt, hparser]) hm j a

end

section
variable {d : BitVec 23} {s t : State}

theorem accepted_of_exec_miUserInterrupt (hx : exec (.miUserInterrupt d) s = .next t) :
    s.accepted.userInterrupt = true := (execMiUserInterrupt_next hx).1

theorem accepted_of_exec_miReportHead (hx : exec (.miReportHead d) s = .next t) :
    s.accepted.reportHead = true := (execMiReportHead_next hx).1

/-- MI_REPORT_HEAD stores through the plan of DWord 4 of the status page and no further (49_logical_context.md R750). -/
theorem readPhys_of_exec_miReportHead (hx : exec (.miReportHead d) s = .next t) {pas : List Nat}
    (hpas : (s.tableOf s.turn).plan (s.statusAddress s.turn 4) 4 = .ok pas) {a : Nat} (ha : a ∉ pas) :
    readPhys t.phys a = readPhys s.phys a := by
  obtain ⟨-, -, -, -, u, hu, rfl⟩ := execMiReportHead_next hx
  obtain ⟨qs, hqs, -, rfl⟩ := State.reportHead_next hu
  obtain rfl : qs = pas := Except.ok.inj (hqs.symm.trans hpas)
  rw [State.advance_phys, State.bumpFree_phys, State.setPhys_phys, readPhys_writePhys_of_notMem _ _ _ ha]

theorem exec_miReportHead_gpe_opaqueState (hx : exec (.miReportHead d) s = .next t) :
    t.gpe = s.gpe ∧ t.opaqueState = s.opaqueState := by
  obtain ⟨n, w, hw, -, rfl⟩ := exec_completes hx
  cases hw
  simp

end

/-- Settles O33: what a command writes is read off `Completes`. On a machine that accepts neither of the two commands,
the one that stores and the one that adds to the trace do not complete. -/
theorem onlyReportHeadStores : Obligations.OnlyReportHeadStores := by
  unfold Obligations.OnlyReportHeadStores
  intro i s t hx
  refine ⟨fun hi => ?others, fun ⟨d, hi⟩ => ?reportHead, fun hacc => ⟨?phys, ?interrupts⟩⟩
  case others =>
    have hm : t.phys = s.phys := exec_phys hx hi
    exact ⟨fun a => by rw [hm], exec_readGfx hx hm, exec_freeCounter hx hi, exec_interrupts hx⟩
  case reportHead =>
    subst hi
    exact ⟨fun pas hpas a ha => readPhys_of_exec_miReportHead hx hpas ha, exec_interrupts hx (fun _ => nofun),
      exec_miReportHead_gpe_opaqueState hx⟩
  case phys =>
    refine exec_phys hx ?_
    rintro d rfl
    simpa [hacc] using accepted_of_exec_miReportHead hx
  case interrupts =>
    refine exec_interrupts hx ?_
    rintro d rfl
    simpa [hacc] using accepted_of_exec_miUserInterrupt hx

end Sys2Proof.Machine
end

section
/-! The compressed formats BC4, BC6H and BC7 (47_bc4_bc7.md): every texel is a weighted mean of two stored endpoints, so
it lies between them and within any bound of both. -/

namespace Sys2Proof.Formats

/-! ## Palette weights -/

theorem bitsOf_lt {w : Nat} (x : BitVec w) (hi lo : Nat) : bitsOf x hi lo < 2 ^ (hi + 1 - lo) :=
  Nat.mod_lt _ (Nat.two_pow_pos _)

/-- A table read with 0 outside it stays within a bound of its entries. -/
theorem getD_zero_le {l : List Nat} {bound : Nat} (h : ∀ w ∈ l, w ≤ bound) (i : Nat) : l.getD i 0 ≤ bound := by
  rcases Nat.lt_or_ge i l.length with hi | hi
  · rw [List.getD_eq_getElem _ _ hi]
    exact h _ (List.getElem_mem hi)
  · rw [List.getD_eq_default _ _ hi]
    exact Nat.zero_le bound

theorem weights2_getD_le (i : Nat) : weights2.getD i 0 ≤ 64 := getD_zero_le (by decide) i

theorem weights3_getD_le (i : Nat) : weights3.getD i 0 ≤ 64 := getD_zero_le (by decide) i

theorem weights4_getD_le (i : Nat) : weights4.getD i 0 ≤ 64 := getD_zero_le (by decide) i

/-- With weights that sum to 64, the rounding term of 32 carries no palette value past a bound of both endpoints
(47_bc4_bc7.md R626, R644). -/
theorem blend_le {a b bound : Int} {weight : Nat} (ha : a ≤ bound) (hb : b ≤ bound) (hw : weight ≤ 64) :
    blend a b weight ≤ bound := by
  have hleft : a * (64 - weight) ≤ bound * (64 - weight) := Int.mul_le_mul_of_nonneg_right ha (by omega)
  have hright : b * weight ≤ bound * weight := Int.mul_le_mul_of_nonneg_right hb (by omega)
  have hsum : bound * (64 - weight) + bound * weight = bound * 64 := by ring
  unfold blend
  omega

/-- BC7 blends as BC6H does, on unsigned endpoints. -/
theorem bc7Blend_eq_blend {e0 e1 weight : Nat} (hw : weight ≤ 64) :
    (bc7Blend e0 e1 weight : Int) = blend e0 e1 weight := by
  simp [bc7Blend, blend, Nat.cast_sub hw]

theorem bc7Blend_le {e0 e1 weight bound : Nat} (h0 : e0 ≤ bound) (h1 : e1 ≤ bound) (hw : weight ≤ 64) :
    bc7Blend e0 e1 weight ≤ bound := by
  have := blend_le (Int.ofNat_le.2 h0) (Int.ofNat_le.2 h1) hw
  rw [← bc7Blend_eq_blend hw] at this
  exact Int.ofNat_le.1 this

/-! ## BC4 -/

/-- A mean of two values with nonnegative weights lies between them. -/
theorem weightedMean_mem_uIcc {i j d : ℚ} (e0 e1 : ℚ) (hi : 0 ≤ i) (hj : 0 ≤ j) (hd : 0 < d) (hij : i + j = d) :
    (i * e0 + j * e1) / d ∈ Set.uIcc e0 e1 := by
  have hone : i / d + j / d = 1 := by rw [← add_div, hij, div_self hd.ne']
  have hmem := convex_uIcc e0 e1 Set.left_mem_uIcc Set.right_mem_uIcc (div_nonneg hi hd.le) (div_nonneg hj hd.le) hone
  rwa [smul_eq_mul, smul_eq_mul, div_mul_eq_mul_div, div_mul_eq_mul_div, ← add_div] at hmem

section
variable {greater : Bool} {code : Nat} (e0 e1 low high : ℚ)

/-- Codes 6 and 7 of the second mode are the only ones that do not interpolate (47_bc4_bc7.md R600). -/
theorem eightEntry_mem_uIcc (hcode : code < 8) (h : greater = true ∨ code < 6) :
    eightEntry greater e0 e1 low high code ∈ Set.uIcc e0 e1 := by
  rcases Nat.lt_or_ge code 2 with hlow | hlow
  · interval_cases code
    · exact Set.left_mem_uIcc
    · exact Set.right_mem_uIcc
  have h0 : code ≠ 0 := by omega
  have h1 : code ≠ 1 := by omega
  have hsecond : (0 : ℚ) ≤ code - 1 := by
    have : (2 : ℚ) ≤ code := by exact_mod_cast hlow
    linarith
  rw [eightEntry, if_neg h0, if_neg h1]
  cases greater with
  | true =>
    rw [if_pos rfl]
    have hfirst : (0 : ℚ) ≤ 8 - code := sub_nonneg.2 (by exact_mod_cast hcode.le)
    exact weightedMean_mem_uIcc e0 e1 hfirst hsecond (by norm_num) (by ring)
  | false =>
    have hsix : code < 6 := h.resolve_left (by decide)
    rw [if_neg Bool.false_ne_true, if_neg (by omega), if_neg (by omega)]
    have hfirst : (0 : ℚ) ≤ 6 - code := sub_nonneg.2 (by exact_mod_cast hsix.le)
    exact weightedMean_mem_uIcc e0 e1 hfirst hsecond (by norm_num) (by ring)

theorem eightEntry_six : eightEntry false e0 e1 low high 6 = low := rfl

theorem eightEntry_seven : eightEntry false e0 e1 low high 7 = high := rfl

end

theorem code3_lt (t : BitVec 64) (y x : Nat) : code3 t y x < 8 := by
  have := bitsOf_lt t (16 + 3 * (4 * y + x) + 2) (16 + 3 * (4 * y + x))
  rwa [show 16 + 3 * (4 * y + x) + 2 + 1 - (16 + 3 * (4 * y + x)) = 3 by omega] at this

/-- A byte as an 8-bit UNORM lies from 0 to 1 (45_channel_formats.md R501). -/
theorem unorm_byte_mem_Icc {u : Nat} (hu : u < 256) : unorm 8 u ∈ Set.Icc 0 1 := by
  have : (u : ℚ) ≤ 255 := by exact_mod_cast Nat.le_of_lt_succ hu
  rw [unorm, show (2 : ℚ) ^ 8 - 1 = 255 by norm_num]
  exact ⟨by positivity, by rwa [div_le_one (by norm_num)]⟩

/-- The comparison of the two stored bytes selects the mode (47_bc4_bc7.md R600; the spec's decision D26). -/
theorem bc4Texel_unorm (b : BitVec 64) (y x : Nat) :
    bc4Texel .unorm b y x = eightEntry (decide (bitsOf b 15 8 < bitsOf b 7 0)) (unorm 8 (bitsOf b 7 0))
      (unorm 8 (bitsOf b 15 8)) 0 1 (code3 b y x) := by
  simp [bc4Texel, BcChannel.stored, BcChannel.value, BcChannel.lowest]

section
variable {b : BitVec 64} {y x : Nat}

theorem bc4Texel_unorm_mem_uIcc (h : bitsOf b 15 8 < bitsOf b 7 0 ∨ code3 b y x < 6) :
    bc4Texel .unorm b y x ∈ Set.uIcc (unorm 8 (bitsOf b 7 0)) (unorm 8 (bitsOf b 15 8)) := by
  rw [bc4Texel_unorm]
  exact eightEntry_mem_uIcc _ _ _ _ (code3_lt b y x) (h.imp_left decide_eq_true)

theorem bc4Texel_unorm_of_six (h : bitsOf b 7 0 ≤ bitsOf b 15 8) (hc : code3 b y x = 6) :
    bc4Texel .unorm b y x = 0 := by
  rw [bc4Texel_unorm, decide_eq_false h.not_gt, hc, eightEntry_six]

theorem bc4Texel_unorm_of_seven (h : bitsOf b 7 0 ≤ bitsOf b 15 8) (hc : code3 b y x = 7) :
    bc4Texel .unorm b y x = 1 := by
  rw [bc4Texel_unorm, decide_eq_false h.not_gt, hc, eightEntry_seven]

end

/-- Interpolated between two values from 0 to 1, or one of these two by its code. -/
theorem bc4Texel_unorm_mem_Icc (b : BitVec 64) (y x : Nat) : bc4Texel .unorm b y x ∈ Set.Icc 0 1 := by
  by_cases h : bitsOf b 15 8 < bitsOf b 7 0 ∨ code3 b y x < 6
  · exact Set.uIcc_subset_Icc (unorm_byte_mem_Icc (bitsOf_lt b 7 0)) (unorm_byte_mem_Icc (bitsOf_lt b 15 8))
      (bc4Texel_unorm_mem_uIcc h)
  · obtain ⟨hmode, hcode⟩ := not_or.1 h
    have hle : bitsOf b 7 0 ≤ bitsOf b 15 8 := Nat.le_of_not_lt hmode
    have hlt := code3_lt b y x
    rcases (by omega : code3 b y x = 6 ∨ code3 b y x = 7) with hc | hc
    · simp [bc4Texel_unorm_of_six hle hc]
    · simp [bc4Texel_unorm_of_seven hle hc]

/-- Settles O56. -/
theorem bc4InterpolatesBetweenItsColors : Obligations.Bc4InterpolatesBetweenItsColors := by
  unfold Obligations.Bc4InterpolatesBetweenItsColors
  intro b y x r0 r1 c t
  have hunit : t ∈ Set.Icc 0 1 := bc4Texel_unorm_mem_Icc b y x
  exact ⟨fun h => bc4Texel_unorm_mem_uIcc h,
    fun h => ⟨bc4Texel_unorm_of_six h, bc4Texel_unorm_of_seven h⟩, hunit⟩

/-! ## BC6H_UF16 -/

/-- What `inPrecision` allows a 16-bit endpoint: at 16 bits of precision it is no restriction. -/
theorem toNat_lt_of_inPrecision_uf16 {p : Nat} {e : BitVec 16} (h : inPrecision .uf16 p e = true) :
    e.toNat < 2 ^ p := by
  rcases of_decide_eq_true h with rfl | hlt
  · exact e.isLt
  · exact hlt

/-- The rounding term of 8000h takes no endpoint of the precision past FFFFh (47_bc4_bc7.md R625). -/
theorem unquantizeUf16_le {p e : Nat} (he : e < 2 ^ p) : unquantizeUf16 p e ≤ 0xFFFF := by
  unfold unquantizeUf16
  split
  case isTrue hp => subst hp; omega
  split
  · exact Nat.zero_le _
  split
  · exact le_rfl
  · exact Nat.le_of_lt_succ ((Nat.div_lt_iff_lt_mul (Nat.two_pow_pos p)).2 (by omega))

theorem unquantize_uf16_le {p : Nat} {e : BitVec 16} (h : inPrecision .uf16 p e = true) :
    unquantize .uf16 p e ≤ 0xFFFF :=
  Int.ofNat_le.2 (unquantizeUf16_le (toNat_lt_of_inPrecision_uf16 h))

theorem Bc6hMode.weight_le (m : Bc6hMode) (b : BitVec 128) (n : Nat) : m.weight b n ≤ 64 := by
  unfold Bc6hMode.weight
  split
  · exact weights3_getD_le _
  · exact weights4_getD_le _

/-- FFFFh rescales to 7BFFh, the largest finite float16 (47_bc4_bc7.md R627). -/
theorem bc6hFinal_uf16_le {v : Int} (hv : v ≤ 0xFFFF) : (bc6hFinal .uf16 v).toNat ≤ 0x7BFF := by
  have hrescaled : v.toNat * 31 / 64 ≤ 0x7BFF := by omega
  rw [bc6hFinal, BitVec.toNat_ofNat]
  exact (Nat.mod_le _ _).trans hrescaled

theorem bc6hTexel_of_reserved {b : BitVec 128} (h : bc6hMode b = none) (f : Bc6hFormat) (n : Nat) (c : RgbChannel) :
    bc6hTexel f b n c = 0 := by
  rw [bc6hTexel, h]

theorem bc6hTexel_of_inPrecision {f : Bc6hFormat} {b : BitVec 128} {m : Bc6hMode} {n : Nat} {c : RgbChannel}
    (hm : bc6hMode b = some m)
    (h0 : inPrecision f m.precision (bc6hEndpoint f m b c (m.ends b n).1) = true)
    (h1 : inPrecision f m.precision (bc6hEndpoint f m b c (m.ends b n).2) = true) :
    bc6hTexel f b n c = bc6hFinal f (blend (unquantize f m.precision (bc6hEndpoint f m b c (m.ends b n).1))
      (unquantize f m.precision (bc6hEndpoint f m b c (m.ends b n).2)) (m.weight b n)) := by
  simp only [bc6hTexel, hm, h0, h1, Bool.and_self, if_true]

/-- Settles O53: unquantized endpoints are at most FFFFh, so is their blend, and the rescale takes that to 7BFFh. -/
theorem bc6hUnsignedNeverLeavesTheFinite : Obligations.Bc6hUnsignedNeverLeavesTheFinite := by
  unfold Obligations.Bc6hUnsignedNeverLeavesTheFinite
  intro b n c hprecision
  cases hm : bc6hMode b with
  | none => rw [bc6hTexel_of_reserved hm]; decide
  | some m =>
    obtain ⟨h0, h1⟩ := hprecision m hm
    rw [bc6hTexel_of_inPrecision hm h0 h1]
    exact bc6hFinal_uf16_le (blend_le (unquantize_uf16_le h0) (unquantize_uf16_le h1) (m.weight_le b n))

/-! ## BC7 -/

/-- Every channel is an 8-bit value. -/
structure Argb.Bytes (t : Argb) : Prop where
  a : t.a ≤ 255
  r : t.r ≤ 255
  g : t.g ≤ 255
  b : t.b ≤ 255

/-- A rotation only exchanges channels, whatever its mapping. -/
theorem Argb.Bytes.rotate {t : Argb} (h : t.Bytes) (rotation : Nat) : (rotateArgb t rotation).Bytes := by
  unfold rotateArgb
  split
  · exact ⟨h.r, h.a, h.g, h.b⟩
  split
  · exact ⟨h.g, h.r, h.a, h.b⟩
  split
  · exact ⟨h.b, h.r, h.g, h.a⟩
  · exact h

theorem replicate8_le (n v : Nat) : replicate8 n v ≤ 255 := Nat.le_of_lt_succ (Nat.mod_lt _ (by decide))

theorem Bc7Mode.component_le (m : Bc7Mode) (b : BitVec 128) (pos n k : Nat) : m.component b pos n k ≤ 255 := by
  unfold Bc7Mode.component bc7Endpoint
  split <;> exact replicate8_le _ _

theorem bc7Weight_le (bits index : Nat) : bc7Weight bits index ≤ 64 := by
  unfold bc7Weight
  split
  · exact weights2_getD_le index
  split
  · exact weights3_getD_le index
  · exact weights4_getD_le index

theorem Bc7Mode.weights_le (m : Bc7Mode) (b : BitVec 128) (n : Nat) :
    (m.weights b n).1 ≤ 64 ∧ (m.weights b n).2 ≤ 64 := by
  unfold Bc7Mode.weights
  split
  case h_1 => exact ⟨bc7Weight_le _ _, bc7Weight_le _ _⟩
  case h_2 =>
    dsimp only
    split
    · exact ⟨bc7Weight_le _ _, bc7Weight_le _ _⟩
    split
    · exact ⟨bc7Weight_le _ _, bc7Weight_le _ _⟩
    · exact ⟨bc7Weight_le _ _, bc7Weight_le _ _⟩

/-- A channel of a line's palette, from the line's endpoints `k` and `k + 1` (47_bc4_bc7.md R644, R648). -/
def Bc7Mode.channel (m : Bc7Mode) (b : BitVec 128) (k pos bits weight : Nat) : Nat :=
  bc7Blend (m.component b pos bits k) (m.component b pos bits (k + 1)) weight

/-- Texel `n` before its rotation (47_bc4_bc7.md R648). -/
def Bc7Mode.unrotated (m : Bc7Mode) (b : BitVec 128) (n : Nat) : Argb :=
  let k := 2 * (m.partition b).line n
  let w := m.weights b n
  { a := m.alpha.elim 255 fun p => m.channel b k p m.alphaBits w.2
    r := m.channel b k m.red m.colorBits w.1
    g := m.channel b k m.green m.colorBits w.1
    b := m.channel b k m.blue m.colorBits w.1 }

section
variable {m : Bc7Mode} (b : BitVec 128) (n : Nat)

theorem Bc7Mode.texel_of_no_rotation (h : m.rotationPos = none) : m.texel b n = m.unrotated b n := by
  rw [Bc7Mode.texel, h]
  rfl

theorem Bc7Mode.texel_of_rotation {p : Nat} (h : m.rotationPos = some p) :
    m.texel b n = rotateArgb (m.unrotated b n) (bitsOf b (p + 1) p) := by
  rw [Bc7Mode.texel, h]
  rfl

end

theorem Bc7Mode.channel_le (m : Bc7Mode) (b : BitVec 128) (k pos bits : Nat) {weight : Nat} (hw : weight ≤ 64) :
    m.channel b k pos bits weight ≤ 255 :=
  bc7Blend_le (m.component_le b pos bits k) (m.component_le b pos bits (k + 1)) hw

/-- Red, green and blue are blends of two bytes; so is alpha, or it is 255 in a mode without alpha bits. -/
theorem Bc7Mode.unrotated_bytes (m : Bc7Mode) (b : BitVec 128) (n : Nat) : (m.unrotated b n).Bytes := by
  obtain ⟨hcolor, halpha⟩ := m.weights_le b n
  refine ⟨?alpha, m.channel_le _ _ _ _ hcolor, m.channel_le _ _ _ _ hcolor, m.channel_le _ _ _ _ hcolor⟩
  case alpha =>
    unfold Bc7Mode.unrotated
    cases m.alpha with
    | none => exact le_rfl
    | some p => exact m.channel_le _ _ _ _ halpha

theorem Bc7Mode.texel_bytes (m : Bc7Mode) (b : BitVec 128) (n : Nat) : (m.texel b n).Bytes := by
  cases h : m.rotationPos with
  | none =>
    rw [Bc7Mode.texel_of_no_rotation b n h]
    exact m.unrotated_bytes b n
  | some p =>
    rw [Bc7Mode.texel_of_rotation b n h]
    exact (m.unrotated_bytes b n).rotate _

theorem bc7Texel_of_mode {b : BitVec 128} {m : Bc7Mode} (h : bc7Mode b = some m) (n : Nat) :
    bc7Texel b n = m.texel b n := by
  rw [bc7Texel, h]

theorem bc7Texel_of_reserved {b : BitVec 128} (h : bc7Mode b = none) (n : Nat) :
    bc7Texel b n = ⟨(Config.bc7ReservedAlpha b).toNat, 0, 0, 0⟩ := by
  rw [bc7Texel, h]

theorem bc7Srgb_of_reserved {b : BitVec 128} (h : bc7Mode b = none) (n : Nat) :
    bc7Srgb b n = ⟨0, 0, 0, (bc7Unorm b n).alpha⟩ := by
  rw [bc7Srgb, h]

/-- The free alpha of a reserved block is a byte too. -/
theorem bc7Texel_bytes (b : BitVec 128) (n : Nat) : (bc7Texel b n).Bytes := by
  cases hm : bc7Mode b with
  | none =>
    rw [bc7Texel_of_reserved hm]
    exact ⟨Nat.le_of_lt_succ (Config.bc7ReservedAlpha b).isLt, Nat.zero_le _, Nat.zero_le _, Nat.zero_le _⟩
  | some m =>
    rw [bc7Texel_of_mode hm]
    exact m.texel_bytes b n

/-- Settles O55. -/
theorem bc7ChannelsAreBytes : Obligations.Bc7ChannelsAreBytes := by
  unfold Obligations.Bc7ChannelsAreBytes
  intro b n
  obtain ⟨ha, hr, hg, hb⟩ := bc7Texel_bytes b n
  exact ⟨hr, hg, hb, ha⟩

/-- No bit below 8 is set, so no mode is selected (47_bc4_bc7.md R632, R641). -/
theorem bc7Mode_of_zero {b : BitVec 128} (h : b.extractLsb' 0 8 = 0) : bc7Mode b = none := by
  have hbit (i : Nat) (hi : i < 8) : b.getLsbD i = false := by
    simpa [hi] using congrArg (fun v => v.getLsbD i) h
  simp only [bc7Mode, hbit, Nat.reduceLT, Bool.false_eq_true, if_false]

/-- Settles O54. -/
theorem bc7ReservedModeIsBlack : Obligations.Bc7ReservedModeIsBlack := by
  unfold Obligations.Bc7ReservedModeIsBlack
  intro b n h
  have hm : bc7Mode b = none := bc7Mode_of_zero h
  rw [bc7Texel_of_reserved hm, bc7Srgb_of_reserved hm]
  exact ⟨rfl, rfl, rfl, rfl, rfl, rfl⟩

/-! ## Partition sets -/

/-- What O57 asks of a partition of `count` lines: fix-up texel `k` lies on line `k`, and no texel on a line above. -/
abbrev Partition.NamesFixups (count : Nat) (p : Partition) : Prop :=
  p.fixups.length = count ∧ (∀ k < count, p.line (p.fixups.getD k 0) = k) ∧ ∀ n < 16, p.line n < count

theorem twoPartitionsLow_namesFixups : ∀ p ∈ twoPartitionsLow, p.NamesFixups 2 := by decide

theorem twoPartitionsHigh_namesFixups : ∀ p ∈ twoPartitionsHigh, p.NamesFixups 2 := by decide

theorem threePartitionsLow_namesFixups : ∀ p ∈ threePartitionsLow, p.NamesFixups 3 := by decide

theorem threePartitionsHigh_namesFixups : ∀ p ∈ threePartitionsHigh, p.NamesFixups 3 := by decide

/-- Settles O57, on the two halves of each set as the tables give them. -/
theorem partitionSetsNameTheirFixups : Obligations.PartitionSetsNameTheirFixups := by
  unfold Obligations.PartitionSetsNameTheirFixups
  exact ⟨List.forall_mem_append.2 ⟨twoPartitionsLow_namesFixups, twoPartitionsHigh_namesFixups⟩,
    List.forall_mem_append.2 ⟨threePartitionsLow_namesFixups, threePartitionsHigh_namesFixups⟩,
    rfl, rfl, List.take_left' rfl⟩

end Sys2Proof.Formats
end

section
/-! The layout of surfaces in memory: padded sizes, and where the LODs of a mip map and the planes of a volume begin
(48_surface_layout.md R668, R670, R685, R686). -/

namespace Sys2Proof.Surface

/-! ## Padded sizes -/

/-- Division that rounds up is Mathlib's, adjoint to multiplication. -/
theorem ceilDiv_le_iff {a i : Nat} (c : Nat) (hi : 0 < i) : ceilDiv a i ≤ c ↔ a ≤ i * c :=
  ceilDiv_le_iff_le_mul hi

@[simp] theorem ceilDiv_one (a : Nat) : ceilDiv a 1 = a := Nat.div_one a

theorem dvd_roundUp (a i : Nat) : i ∣ roundUp a i := Nat.dvd_mul_right i (ceilDiv a i)

theorem le_roundUp {i : Nat} (a : Nat) (hi : 0 < i) : a ≤ roundUp a i := (ceilDiv_le_iff _ hi).1 le_rfl

theorem roundUp_le_of_dvd {a i m : Nat} (hi : 0 < i) (hm : i ∣ m) (ha : a ≤ m) : roundUp a i ≤ m := by
  obtain ⟨c, rfl⟩ := hm
  exact Nat.mul_le_mul_left i ((ceilDiv_le_iff c hi).2 ha)

/-- Settles O58. -/
theorem paddedSizeIsTheLeastMultiple : Obligations.PaddedSizeIsTheLeastMultiple := by
  unfold Obligations.PaddedSizeIsTheLeastMultiple
  exact fun w i hi => ⟨Nat.mod_eq_zero_of_dvd (dvd_roundUp w i), le_roundUp w hi,
    fun m hm hw => roundUp_le_of_dvd hi (Nat.dvd_of_mod_eq_zero hm) hw⟩

/-! ## Origins in MIPLAYOUT_BELOW -/

@[simp] theorem sumFrom_self (f : Nat → Nat) (a : Nat) : sumFrom f a a = 0 := by simp [sumFrom]

theorem sumFrom_succ (f : Nat → Nat) {a b : Nat} (h : a ≤ b) : sumFrom f a (b + 1) = sumFrom f a b + f b := by
  simp [sumFrom, Nat.sub_add_comm h, List.range_succ, Nat.add_sub_cancel' h]

theorem lodOrigin_below_zero (size : Nat → Extent) : lodOrigin .below size 0 = ⟨0, 0⟩ := rfl

theorem lodOrigin_below_one (size : Nat → Extent) : lodOrigin .below size 1 = ⟨0, (size 0).y⟩ := rfl

theorem lodOrigin_below_two (size : Nat → Extent) : lodOrigin .below size 2 = ⟨(size 1).x, (size 0).y⟩ := by
  simp [lodOrigin]

/-- From LOD 2 on, each LOD begins below the one before it. -/
theorem lodOrigin_below_succ (size : Nat → Extent) {l : Nat} (h : 2 ≤ l) :
    lodOrigin .below size (l + 1) = ⟨(size 1).x, (lodOrigin .below size l).y + (size l).y⟩ := by
  obtain ⟨k, rfl⟩ := Nat.exists_eq_add_of_le' h
  simp [lodOrigin, sumFrom_succ, Nat.add_assoc]

/-! ## Planes of a volume -/

/-- The rows before LOD `l`: those of each LOD before it, `2 ^ k` planes of LOD `k` side by side. -/
theorem volumeOrigin_eq (u : AlignmentUnit) (w h d l q : Nat) :
    volumeOrigin u w h d l q =
      ⟨q % 2 ^ l * (lodSize u w h l).x,
        ((List.range l).map fun k => ceilDiv (mipSize d k) (2 ^ k) * (lodSize u w h k).y).sum +
          q / 2 ^ l * (lodSize u w h l).y⟩ := rfl

/-- Settles O59: the equations of MIPLAYOUT_BELOW one LOD after the other, those of a volume by summing its rows. -/
theorem mipOriginsAreAsPrinted : Obligations.MipOriginsAreAsPrinted := by
  unfold Obligations.MipOriginsAreAsPrinted
  refine ⟨fun size => ?_, fun u w h d q => ?_⟩
  · have hthree : lodOrigin .below size 3 = ⟨(size 1).x, (size 0).y + (size 2).y⟩ := by
      rw [lodOrigin_below_succ size le_rfl, lodOrigin_below_two]
    have hfour : lodOrigin .below size 4 = ⟨(size 1).x, (size 0).y + (size 2).y + (size 3).y⟩ := by
      rw [lodOrigin_below_succ size (by decide), hthree]
    exact ⟨lodOrigin_below_zero size, lodOrigin_below_one size, lodOrigin_below_two size, hthree, hfour,
      fun l => lodOrigin_below_succ size⟩
  · simp [volumeOrigin_eq, List.range_succ, Nat.mod_one, Nat.add_assoc]

end Sys2Proof.Surface
end

section
/-! Accesses to surfaces: the spans an access touches are read through the table of the GPE's units, so it faults exactly
where a byte of them is unmapped, and only the bytes of the element asked for reach the answer (48_surface_layout.md R700
to R707; 60_exceptions.md R765). -/

namespace Sys2Proof.Machine

/-! ## Plans of consecutive bytes -/

/-- A plan fails at one of the bytes asked for, and that byte is unmapped. -/
theorem PageTable.unmapped_of_plan_error {t : PageTable} {a n : Nat} {b : GraphicsAddress}
    (h : t.plan (BitVec.ofNat 32 a) n = .error b) :
    ∃ k < n, b = BitVec.ofNat 32 (a + k) ∧ t.translate b = none := by
  induction n generalizing a with
  | zero => cases h
  | succ n ih =>
    rcases PageTable.plan_succ_error h with ⟨hnone, rfl⟩ | ⟨-, -, hrest⟩
    · exact ⟨0, Nat.succ_pos n, rfl, hnone⟩
    · rw [ofNat32_add_one] at hrest
      obtain ⟨k, hk, rfl, hnone⟩ := ih hrest
      refine ⟨k + 1, Nat.succ_lt_succ hk, ?_, hnone⟩
      rw [Nat.add_assoc, Nat.add_comm 1 k]

/-- Where a plan succeeds, every byte asked for is mapped. -/
theorem PageTable.mapped_of_plan_ok {t : PageTable} {a n k : Nat} {pas : List Nat}
    (h : t.plan (BitVec.ofNat 32 a) n = .ok pas) (hk : k < n) :
    (t.translate (BitVec.ofNat 32 (a + k))).isSome = true := by
  have hlen : k < pas.length := by rwa [t.length_plan n _ h]
  rw [BitVec.ofNat_add, t.plan_get n _ h k hlen, Option.isSome_some]

/-! ## Reading a span -/

/-- The bytes of a span lie below 2^32. -/
abbrev SpanFits (base : GraphicsAddress) (p : Surface.Span) : Prop :=
  base.toNat + p.offset + p.bytes ≤ 4294967296

/-- Every byte of a span is mapped for the GPE's units. -/
def State.SpanMapped (s : State) (base : GraphicsAddress) (p : Surface.Span) : Prop :=
  ∀ k < p.bytes, ((s.tableOf .render).translate (BitVec.ofNat 32 (base.toNat + p.offset + k))).isSome = true

/-- The physical addresses of a span, or its first unmapped byte. -/
def State.spanPlan (s : State) (base : GraphicsAddress) (p : Surface.Span) : Except GraphicsAddress (List Nat) :=
  (s.tableOf .render).plan (BitVec.ofNat 32 (base.toNat + p.offset)) p.bytes

section
variable {s : State} {base : GraphicsAddress} {p : Surface.Span}

theorem State.spanMapped_iff : s.SpanMapped base p ↔ ∃ pas, s.spanPlan base p = .ok pas := by
  refine ⟨fun hmap => ?_, fun ⟨_, hpas⟩ _ hk => PageTable.mapped_of_plan_ok hpas hk⟩
  cases hplan : s.spanPlan base p with
  | ok pas => exact ⟨pas, rfl⟩
  | error b =>
    obtain ⟨k, hk, rfl, hnone⟩ := PageTable.unmapped_of_plan_error hplan
    simpa [hnone] using hmap k hk

theorem State.readSpan_of_plan {pas : List Nat} (hfit : SpanFits base p) (h : s.spanPlan base p = .ok pas) :
    s.readSpan base p = .next (pas.map (readPhys s.phys)) := by
  rw [State.readSpan, if_pos hfit, State.tableById_unitTable, ← State.spanPlan, h]

theorem State.readSpan_of_error {b : GraphicsAddress} (hfit : SpanFits base p) (h : s.spanPlan base p = .error b) :
    s.readSpan base p = .fault (.gttError b) := by
  rw [State.readSpan, if_pos hfit, State.tableById_unitTable, ← State.spanPlan, h]

theorem State.readSpan_of_overflow (hfit : ¬ SpanFits base p) : s.readSpan base p = .refused .addressOverflow :=
  if_neg hfit

theorem State.readSpan_mapped (hfit : SpanFits base p) (hmap : s.SpanMapped base p) :
    ∃ bs, s.readSpan base p = .next bs := by
  obtain ⟨pas, hpas⟩ := State.spanMapped_iff.1 hmap
  exact ⟨_, State.readSpan_of_plan hfit hpas⟩

theorem State.readSpan_unmapped (hfit : SpanFits base p) (hmap : ¬ s.SpanMapped base p) :
    ∃ b, s.readSpan base p = .fault (.gttError b) ∧ (s.tableOf .render).translate b = none := by
  cases hplan : s.spanPlan base p with
  | ok pas => exact absurd (State.spanMapped_iff.2 ⟨pas, hplan⟩) hmap
  | error b =>
    obtain ⟨-, -, -, hnone⟩ := PageTable.unmapped_of_plan_error hplan
    exact ⟨b, State.readSpan_of_error hfit hplan, hnone⟩

/-! ## Touching spans -/

theorem State.touchSpans_mapped {x : List Surface.Span} (hfit : ∀ p ∈ x, SpanFits base p)
    (hmap : ∀ p ∈ x, s.SpanMapped base p) : s.touchSpans base x = .next () := by
  induction x with
  | nil => rfl
  | cons p rest ih =>
    obtain ⟨hfitp, hfitrest⟩ := List.forall_mem_cons.1 hfit
    obtain ⟨hmapp, hmaprest⟩ := List.forall_mem_cons.1 hmap
    obtain ⟨bs, hbs⟩ := State.readSpan_mapped hfitp hmapp
    rw [State.touchSpans, hbs]
    exact ih hfitrest hmaprest

/-- The fault is that of the first span that is not mapped. -/
theorem State.touchSpans_unmapped {x : List Surface.Span} (hfit : ∀ p ∈ x, SpanFits base p)
    (hmap : ¬ ∀ p ∈ x, s.SpanMapped base p) :
    ∃ b, s.touchSpans base x = .fault (.gttError b) ∧ (s.tableOf .render).translate b = none := by
  induction x with
  | nil => exact absurd (List.forall_mem_nil _) hmap
  | cons p rest ih =>
    obtain ⟨hfitp, hfitrest⟩ := List.forall_mem_cons.1 hfit
    by_cases hp : s.SpanMapped base p
    · obtain ⟨bs, hbs⟩ := State.readSpan_mapped hfitp hp
      rw [State.touchSpans, hbs]
      exact ih hfitrest fun hrest => hmap (List.forall_mem_cons.2 ⟨hp, hrest⟩)
    · obtain ⟨b, hb, hnone⟩ := State.readSpan_unmapped hfitp hp
      exact ⟨b, by rw [State.touchSpans, hb], hnone⟩

end

/-! ## What a read depends on -/

theorem State.spanPlan_congr {s t : State} (h : t.tableOf .render = s.tableOf .render) (base : GraphicsAddress)
    (p : Surface.Span) : t.spanPlan base p = s.spanPlan base p := by rw [State.spanPlan, State.spanPlan, h]

/-- Reading a span and keeping nothing depends on the table alone. -/
theorem State.touchSpans_congr {s t : State} (h : t.tableOf .render = s.tableOf .render) (base : GraphicsAddress)
    (x : List Surface.Span) : t.touchSpans base x = s.touchSpans base x := by
  induction x with
  | nil => rfl
  | cons p rest ih =>
    have hplan := State.spanPlan_congr h base p
    rw [State.touchSpans, State.touchSpans]
    by_cases hfit : SpanFits base p
    · cases hs : s.spanPlan base p with
      | ok pas => rw [State.readSpan_of_plan hfit hs, State.readSpan_of_plan hfit (hplan.trans hs), ih]
      | error b => rw [State.readSpan_of_error hfit hs, State.readSpan_of_error hfit (hplan.trans hs)]
    · rw [State.readSpan_of_overflow hfit, State.readSpan_of_overflow hfit]

/-- Reading a span depends on the table and on the bytes of the span. -/
theorem State.readSpan_congr {s t : State} {base : GraphicsAddress} {p : Surface.Span}
    (h : t.tableOf .render = s.tableOf .render)
    (hbytes : ∀ pas, s.spanPlan base p = .ok pas → ∀ q ∈ pas, readPhys t.phys q = readPhys s.phys q) :
    t.readSpan base p = s.readSpan base p := by
  have hplan := State.spanPlan_congr h base p
  by_cases hfit : SpanFits base p
  · cases hs : s.spanPlan base p with
    | ok pas =>
      rw [State.readSpan_of_plan hfit hs, State.readSpan_of_plan hfit (hplan.trans hs),
        List.map_congr_left (hbytes pas hs)]
    | error b => rw [State.readSpan_of_error hfit hs, State.readSpan_of_error hfit (hplan.trans hs)]
  · rw [State.readSpan_of_overflow hfit, State.readSpan_of_overflow hfit]

/-! ## Surface accesses -/

/-- An element that lies in the surface is one of the spans the access touches. -/
theorem elementSpan_mem_touched {a : Surface.Access} {x : List Surface.Span} (h : a.touched = some x)
    (hin : a.shape.inside a.coordinate = true) : a.shape.elementSpan a.coordinate ∈ x := by
  obtain ⟨-, l, -, rfl⟩ := surface_touched_some h
  simp [hin]

section
variable {s : State} {a : Surface.Access} {x : List Surface.Span} (hx : a.touched = some x)
  (hfit : ∀ p ∈ x, SpanFits a.base p)
include hx hfit

theorem State.surfaceAccess_mapped (hmap : ∀ p ∈ x, s.SpanMapped a.base p) : ∃ r, s.surfaceAccess a = .next r := by
  simp only [State.surfaceAccess, hx, State.touchSpans_mapped hfit hmap]
  split
  · have hmem := elementSpan_mem_touched hx ‹_›
    obtain ⟨bs, hbs⟩ := State.readSpan_mapped (hfit _ hmem) (hmap _ hmem)
    exact ⟨_, by rw [hbs]⟩
  · exact ⟨none, rfl⟩

theorem State.surfaceAccess_unmapped (hmap : ¬ ∀ p ∈ x, s.SpanMapped a.base p) :
    ∃ b, s.surfaceAccess a = .fault (.gttError b) ∧ (s.tableOf .render).translate b = none := by
  obtain ⟨b, hb, hnone⟩ := State.touchSpans_unmapped hfit hmap
  exact ⟨b, by simp only [State.surfaceAccess, hx, hb], hnone⟩

end

/-- What an access answers depends on the table and on the bytes of the element asked for. -/
theorem State.surfaceAccess_congr {s t : State} {a : Surface.Access} (h : t.tableOf .render = s.tableOf .render)
    (hbytes : ∀ pas, s.spanPlan a.base (a.shape.elementSpan a.coordinate) = .ok pas →
      ∀ q ∈ pas, readPhys t.phys q = readPhys s.phys q) : t.surfaceAccess a = s.surfaceAccess a := by
  simp only [State.surfaceAccess, State.touchSpans_congr h, State.readSpan_congr h hbytes]

/-- What lies outside the surface is never returned. -/
theorem State.surfaceAccess_outside {s : State} {a : Surface.Access} {r : Option Surface.Element}
    (hout : a.shape.inside a.coordinate = false) (h : s.surfaceAccess a = .next r) : r = none := by
  unfold State.surfaceAccess at h
  split at h
  · cases h
  · split at h
    · cases h
    · cases h
    · rw [hout] at h
      cases h
      rfl

/-- Settles O60: the access reads mapped spans and faults in the first unmapped one; touching the others keeps nothing. -/
theorem surfaceAccessReadsTheExtendedSurface : Obligations.SurfaceAccessReadsTheExtendedSurface := by
  unfold Obligations.SurfaceAccessReadsTheExtendedSurface
  refine ⟨fun s a x l hs hx hfit => ?_, fun s t a htables hunit hbytes => ?_, fun s a r => State.surfaceAccess_outside⟩
  · rw [step_event hs (by simp), State.perform, State.performSurfaceAccess]
    have htable : (s.setSchedule l).tableOf .render = s.tableOf .render := s.setSchedule_tableOf l .render
    refine ⟨fun hmap => ?_, fun ⟨p, hp, k, hk, hnone⟩ => ?_⟩
    · obtain ⟨r, hr⟩ := State.surfaceAccess_mapped (s := s.setSchedule l) hx hfit
        fun p hp k hk => by rw [htable]; exact hmap p hp k hk
      rw [hr]
      rfl
    · have hunmapped : ¬ ∀ p ∈ x, (s.setSchedule l).SpanMapped a.base p := fun hmap => by
        simpa [hnone] using hmap p hp k hk
      obtain ⟨b, hb, hbnone⟩ := State.surfaceAccess_unmapped hx hfit hunmapped
      exact ⟨b, by rw [hb], htable ▸ hbnone⟩
  · have htable : t.tableOf .render = s.tableOf .render := by
      rw [← t.tableById_unitTable, hunit, htables, s.tableById_unitTable]
    exact State.surfaceAccess_congr htable fun pas => hbytes _ pas rfl

end Sys2Proof.Machine
end

section
/-! The status page of an engine: what MI_REPORT_HEAD stores into DWord 4, and what the device writes into the reserved
DWords. Both store one DWord through the engine's own table and count one free value (49_logical_context.md R750, R753;
41_mi_commands.md R235; 42_2d_commands.md R308; 93_implementation_defined.md U9). -/

namespace Sys2Proof.Machine

/-! ## Storing a DWord of the status page -/

section
variable {s : State} {e : Engine} {k : Nat} (v : Word)

theorem State.storeGfx_status_ok {pas : List Nat} (hplan : (s.tableOf e).plan (s.statusAddress e k) 4 = .ok pas)
    (hfree : s.streamModified pas = false) :
    s.storeGfx (s.tableIdOf e) (s.statusAddress e k) (bytesOfWord v) =
      .next (s.setPhys (writePhys s.phys pas (bytesOfWord v))) :=
  (State.storeGfx_of_plan (j := s.tableIdOf e) (bytes := bytesOfWord v) hplan).trans (State.commit_ok hfree)

theorem State.storeGfx_status_modified {pas : List Nat}
    (hplan : (s.tableOf e).plan (s.statusAddress e k) 4 = .ok pas) (hlive : s.streamModified pas = true) :
    s.storeGfx (s.tableIdOf e) (s.statusAddress e k) (bytesOfWord v) = .refused .commandStreamModified :=
  (State.storeGfx_of_plan (j := s.tableIdOf e) (bytes := bytesOfWord v) hplan).trans (State.commit_modified hlive)

theorem State.storeGfx_status_unmapped {a : GraphicsAddress}
    (hplan : (s.tableOf e).plan (s.statusAddress e k) 4 = .error a) :
    s.storeGfx (s.tableIdOf e) (s.statusAddress e k) (bytesOfWord v) = .fault (.gttError a) := by
  rw [State.tableOf] at hplan
  rw [State.storeGfx, length_bytesOfWord, hplan]

end

/-- Memory and the counter of free values are parts of the state apart from the parsers. -/
theorem State.setParser_setPhys_bumpFree (s : State) (m : List Host.Cell) (e : Engine) (p : Parser) :
    (s.setPhys m).bumpFree.setParser e p =
      { s.setParser e p with phys := m, freeCounter := s.freeCounter + 1 } := by
  cases e <;> rfl

theorem State.advance_setPhys_bumpFree (s : State) (m : List Host.Cell) (n : Nat) :
    (s.setPhys m).bumpFree.advance n =
      { s.setParser s.turn ((s.parser s.turn).advance n) with phys := m, freeCounter := s.freeCounter + 1 } := by
  rw [State.advance, State.setParser_setPhys_bumpFree, State.bumpFree_turn, State.setPhys_turn,
    State.bumpFree_parser, State.setPhys_parser]

/-! ## MI_REPORT_HEAD -/

theorem State.acceptsReportHead_eq_false {s : State} :
    s.acceptsReportHead = false ↔ s.accepted.reportHead = false ∨ s.turn = .blitter := by
  rw [← Bool.not_eq_true, State.acceptsReportHead_iff, not_and_or, Bool.not_eq_true, not_not]

theorem execMiReportHead_refused {s : State} {d : BitVec 23}
    (h : s.accepted.reportHead = false ∨ d ≠ 0 ∨ s.turn = .blitter) :
    execMiReportHead d s = .refused (.bodyNotInSource "MI_REPORT_HEAD" 1) := by
  have hrefused : s.acceptsReportHead = false ∨ d ≠ 0 := by
    rw [State.acceptsReportHead_eq_false]
    tauto
  rw [execMiReportHead, State.optionalMiChecks_refused _ hrefused]

section
variable {s : State} {e : Engine}

theorem State.reportHead_ok {pas : List Nat} (hplan : (s.tableOf e).plan (s.statusAddress e 4) 4 = .ok pas)
    (hfree : s.streamModified pas = false) :
    s.reportHead e = .next
      (s.setPhys (writePhys s.phys pas (bytesOfWord (Config.headRegisterImage s.freeCounter)))).bumpFree := by
  rw [State.reportHead, State.storeGfx_status_ok _ hplan hfree]

theorem State.reportHead_modified {pas : List Nat} (hplan : (s.tableOf e).plan (s.statusAddress e 4) 4 = .ok pas)
    (hlive : s.streamModified pas = true) : s.reportHead e = .refused .commandStreamModified := by
  rw [State.reportHead, State.storeGfx_status_modified _ hplan hlive]

theorem State.reportHead_unmapped {a : GraphicsAddress}
    (hplan : (s.tableOf e).plan (s.statusAddress e 4) 4 = .error a) : s.reportHead e = .fault (.gttError a) := by
  rw [State.reportHead, State.storeGfx_status_unmapped _ hplan]

end

/-- Settles O24: past its checks, the command answers what the store into DWord 4 answers. -/
theorem reportHeadStoresOneDWord : Obligations.ReportHeadStoresOneDWord := by
  unfold Obligations.ReportHeadStoresOneDWord
  refine ⟨fun s hacc hturn havail => ?_, fun s d h => execMiReportHead_refused h⟩
  have hpass : s.optionalMiChecks s.acceptsReportHead "MI_REPORT_HEAD" 0 = none :=
    State.optionalMiChecks_pass _ (State.acceptsReportHead_iff.2 ⟨hacc, hturn⟩) rfl havail
  refine ⟨fun pas hplan hfree => ?stored, fun a hplan => ?unmapped, fun pas hplan hlive => ?live⟩
  all_goals
    show execMiReportHead 0 s = _
    rw [execMiReportHead, hpass]
  case stored =>
    rw [State.reportHead_ok hplan hfree, ← State.advance_setPhys_bumpFree, lengthSingle]
  case unmapped => rw [State.reportHead_unmapped hplan]
  case live => rw [State.reportHead_modified hplan hlive]

/-! ## Reserved DWords -/

theorem statusDword_eq_reserved {e : Engine} {k : Nat} :
    statusDword e k = .reserved ↔
      k ≠ 4 ∧ ¬ (0x20 ≤ k ∧ k < statusPageDwords) ∧ (e = .render → ¬ (0x18 ≤ k ∧ k ≤ 0x1B)) := by
  cases e with
  | video => unfold statusDword; split_ifs <;> simp [*]
  | blitter => unfold statusDword; split_ifs <;> simp [*]
  | render => simp only [statusDword]; split_ifs <;> simp [*]; omega

/-- The reserved DWords of a status page are 3:0 and 1F:5, without the four timestamps of the render page. -/
theorem reservedDword_iff {e : Engine} {k : Nat} :
    k < statusPageDwords ∧ statusDword e k = .reserved ↔
      k ≠ 4 ∧ k < 0x20 ∧ (e = .render → ¬ (0x18 ≤ k ∧ k ≤ 0x1B)) := by
  have hrange : k < statusPageDwords ∧ ¬ (0x20 ≤ k ∧ k < statusPageDwords) ↔ k < 0x20 := by
    rw [statusPageDwords]; omega
  rw [statusDword_eq_reserved]
  tauto

@[simp] theorem State.setSchedule_statusAddress (s : State) (l : List Event) (e : Engine) (k : Nat) :
    (s.setSchedule l).statusAddress e k = s.statusAddress e k := by
  simp [State.statusAddress]

section
variable {s : State} {e : Engine} {k : Nat}

theorem State.deviceWriteReserved_ok {pas : List Nat} (hk : k < statusPageDwords ∧ statusDword e k = .reserved)
    (hplan : (s.tableOf e).plan (s.statusAddress e k) 4 = .ok pas) (hfree : s.streamModified pas = false) :
    s.deviceWriteReserved e k = .next
      (s.setPhys (writePhys s.phys pas (bytesOfWord (Config.reservedStatusDword s.freeCounter)))).bumpFree := by
  rw [State.deviceWriteReserved, if_pos hk, State.storeGfx_status_ok _ hplan hfree]

theorem State.deviceWriteReserved_unmapped {a : GraphicsAddress}
    (hk : k < statusPageDwords ∧ statusDword e k = .reserved)
    (hplan : (s.tableOf e).plan (s.statusAddress e k) 4 = .error a) :
    s.deviceWriteReserved e k = .fault (.gttError a) := by
  rw [State.deviceWriteReserved, if_pos hk, State.storeGfx_status_unmapped _ hplan]

theorem State.deviceWriteReserved_of_not_reserved (hk : ¬ (k < statusPageDwords ∧ statusDword e k = .reserved)) :
    s.deviceWriteReserved e k = .next s := if_neg hk

end

/-- Settles O25: the event is taken off the schedule, which changes neither the plan of the DWord nor what is live. -/
theorem deviceWritesReservedDWords : Obligations.DeviceWritesReservedDWords := by
  unfold Obligations.DeviceWritesReservedDWords
  intro s e k l hs
  rw [step_event hs (by simp), State.perform, ← reservedDword_iff]
  refine ⟨fun hk => ⟨fun pas hplan hfree => ?stored, fun a hplan => ?unmapped⟩,
    State.deviceWriteReserved_of_not_reserved⟩
  case stored =>
    exact State.deviceWriteReserved_ok (s := s.setSchedule l) hk (by simpa using hplan) (by simpa using hfree)
  case unmapped => exact State.deviceWriteReserved_unmapped hk (by simpa using hplan)

end Sys2Proof.Machine
end

section
/-! The GTT error of a command fetch, and the exception entry of an EU thread (20_memory.md R98, R111; 60_exceptions.md
R762, R764, R765). -/

namespace Sys2Proof.Machine

/-! ## Fetching from an unmapped page -/

/-- An access stops at its first byte where the page of that byte is not mapped. -/
theorem PageTable.plan_succ_of_unmapped {t : PageTable} {a : GraphicsAddress} (h : t.translate a = none) (n : Nat) :
    t.plan a (n + 1) = .error a := by
  rw [PageTable.plan, h]

theorem State.readWord_of_unmapped {s : State} {e : Engine} {a : GraphicsAddress}
    (h : (s.tableOf e).translate a = none) : s.readWord e a = .error a := by
  rw [State.readWord, PageTable.plan_succ_of_unmapped h]

theorem State.fetch_of_readWord_error {s : State} {a : GraphicsAddress} (hidle : (s.parser s.turn).idle = false)
    (h : s.readWord s.turn (s.parser s.turn).pc = .error a) : s.fetch = .fault (.gttError a) := by
  rw [State.fetch, hidle, h]
  rfl

/-- Settles O8: the header is the first thing read, and its first byte is the one at `pc`. -/
theorem fetchFromUnmappedPageFaults : Obligations.FetchFromUnmappedPageFaults := by
  unfold Obligations.FetchFromUnmappedPageFaults
  intro s hs hidle hunmapped
  rw [step_nil hs, stepParser, State.fetch_of_readWord_error hidle (State.readWord_of_unmapped hunmapped)]

/-! ## The entry of the System Routine -/

section
variable {g : Gpe} {b : BitVec 20} {p : BitVec 28}

theorem Gpe.systemRoutine_ok (hb : g.instructionBase = .holds b) (hp : g.sip = .holds p)
    (hsum : b.toNat * 4096 + p.toNat * 16 < 4294967296) :
    g.systemRoutine = .ok (BitVec.ofNat 32 (b.toNat * 4096 + p.toNat * 16)) := by
  simp only [Gpe.systemRoutine, hb, hp]
  exact if_pos hsum

theorem Gpe.systemRoutine_overflow (hb : g.instructionBase = .holds b) (hp : g.sip = .holds p)
    (hsum : 4294967296 ≤ b.toNat * 4096 + p.toNat * 16) : g.systemRoutine = .error .addressOverflow := by
  simp only [Gpe.systemRoutine, hb, hp]
  exact if_neg hsum.not_gt

theorem Gpe.systemRoutine_unset (h : g.instructionBase = .unset ∨ g.sip = .unset) :
    g.systemRoutine = .error .stateNeverWritten := by
  rcases h with hb | hp
  · simp only [Gpe.systemRoutine, hb]
  · cases hb : g.instructionBase <;> simp only [Gpe.systemRoutine, hb, hp]

/-- Shifted left by 4, SIP fits in a word: no bit of it is lost. -/
theorem Gpe.sipOffset_of_holds (hp : g.sip = .holds p) : g.sipOffset = BitVec.ofNat 32 (p.toNat * 16) := by
  simp only [Gpe.sipOffset, hp]
  apply BitVec.eq_of_toNat_eq
  rw [BitVec.toNat_append, BitVec.toNat_ofNat, BitVec.toNat_ofNat, Nat.shiftLeft_eq, Nat.zero_mod, Nat.or_zero,
    Nat.mod_eq_of_lt]
  omega

end

/-! ## Taking an exception -/

section
variable {s : State} {k : Nat} {u : EuThread}

theorem State.takeException_of_no_thread (h : s.threads[k]? = none) : s.takeException k = .next s := by
  rw [State.takeException, h]

theorem State.takeException_ok {a : GraphicsAddress} (hu : s.threads[k]? = some u)
    (ha : s.gpe.systemRoutine = .ok a) :
    s.takeException k = .next (s.setThreads (s.threads.set k (u.enterException s.gpe.sipOffset))) := by
  rw [State.takeException, hu, ha]

theorem State.takeException_refused {r : Refusal} (hu : s.threads[k]? = some u)
    (hr : s.gpe.systemRoutine = .error r) : s.takeException k = .refused r := by
  rw [State.takeException, hu, hr]

end

/-- Settles O35: the entry address decides whether the exception is taken, and the offset alone goes into IP. -/
theorem exceptionEntersTheSystemRoutine : Obligations.ExceptionEntersTheSystemRoutine := by
  unfold Obligations.ExceptionEntersTheSystemRoutine
  intro s k l hs
  rw [step_event hs (by simp), State.perform]
  refine ⟨fun u hu => ⟨fun b p hb hp => ⟨fun hsum => ?entered, fun hsum => ?overflow⟩, fun hunset => ?unset⟩,
    fun hnone => ?noThread⟩
  case entered =>
    rw [State.takeException_ok (s := s.setSchedule l) hu (Gpe.systemRoutine_ok hb hp hsum),
      State.setSchedule_gpe, Gpe.sipOffset_of_holds hp]
    rfl
  case overflow => exact State.takeException_refused hu (Gpe.systemRoutine_overflow hb hp hsum)
  case unset => exact State.takeException_refused hu (Gpe.systemRoutine_unset hunset)
  case noThread => exact State.takeException_of_no_thread (s := s.setSchedule l) hnone

end Sys2Proof.Machine
end

section
/-! Frames: what no command that completes changes (70_reset_and_hazards.md R836; 60_exceptions.md R772; 10_state.md
R40, R58). -/

namespace Sys2Proof.Machine

/-- Of the state, a command writes before its head moves at most the variables of the GPE, the opaque state, the URB,
memory, the trace of interrupts and the counter of free values. -/
theorem Completes.frame {s w : State} {i : Instr} {n : Nat} (h : Completes s i n w) :
    w = { s with
      gpe := w.gpe, opaqueState := w.opaqueState, urb := w.urb
      phys := w.phys, interrupts := w.interrupts, freeCounter := w.freeCounter } := by
  cases h with
  | stateBaseAddress =>
    obtain ⟨o, ho⟩ := s.rebase_eq (s.gpe.updateBases ..)
    rw [ho]
    rfl
  | _ => rfl

/-- Moving past a command changes one of the two heads (10_state.md R46). -/
theorem Parser.advance_heads (p : Parser) (n : Nat) :
    ∃ h b, p.advance n = { p with ring := { p.ring with head := h }, bb := { p.bb with head := b } } := by
  cases hb : p.bb.active with
  | true => exact ⟨p.ring.head, _, p.advance_of_active n hb⟩
  | false => exact ⟨_, p.bb.head, p.advance_of_inactive n hb⟩

/-- Settles O31: the head moves after a write whose frame `Completes.frame` gives. -/
theorem commandsLeaveOtherStateAlone : Obligations.CommandsLeaveOtherStateAlone := by
  unfold Obligations.CommandsLeaveOtherStateAlone
  intro i s t hx
  obtain ⟨n, w, hw, -, rfl⟩ := exec_completes hx
  obtain ⟨hturn, hparser⟩ := hw.parser_eq
  have hframe := hw.frame
  have hmmio : (w.advance n).mmio = s.mmio := by rw [State.advance_mmio, hframe]
  have hnamed : (w.advance n).namedRegs = s.namedRegs := by rw [State.advance_namedRegs, hframe]
  refine ⟨fun e he => ?others, ?heads, fun o => ?reg, fun r => ?named, hmmio, hnamed, ?frame⟩
  case others => rw [State.advance_parser_ne w n (by rwa [hturn]), hparser]
  case heads =>
    rw [← hturn, w.advance_parser_turn, hparser]
    exact Parser.advance_heads _ n
  case reg => rw [State.readReg, hmmio, State.readReg]
  case named => rw [State.readNamed, hnamed, State.readNamed]
  case frame =>
    rw [State.advance_gtt, State.advance_threads, State.advance_hidden, State.advance_variant, State.advance_accepted,
      State.advance_turn, State.advance_schedule, hframe]
    exact ⟨rfl, rfl, rfl, rfl, rfl, rfl, rfl⟩

end Sys2Proof.Machine
end

section
/-! Events of the host: what it chooses, reads, writes and maps (70_reset_and_hazards.md R835, R836; 20_memory.md R91,
R96 to R98, R102, R135; 10_state.md R60, R69). -/

namespace Sys2Proof.Machine

/-! ## Choosing a parser, a table, its size or a status page -/

theorem State.hostSetTableSize_ok {s : State} {i : TableId} {z : TableSize} (h : ¬ (i = .global ∧ z = .kb64)) :
    s.hostSetTableSize i z = .next (s.setTableById i { s.tableById i with size := z }) := if_neg h

theorem State.hostSetTableSize_refused (s : State) :
    s.hostSetTableSize .global .kb64 = .refused .tableSizeIllegal := if_pos ⟨rfl, rfl⟩

/-- Settles O28. -/
theorem eventsThatChoose : Obligations.EventsThatChoose := by
  unfold Obligations.EventsThatChoose
  intro s l
  refine ⟨fun e hs => ?parser, fun e c hs => ?table, fun e p hs => ?statusPage,
    fun z hs => ⟨fun hz => ?globalSize, fun hz => ?globalRefused⟩, fun e z hs => ?perProcessSize⟩
  case parser => exact step_runParser hs
  case table =>
    rw [step_event hs (by simp), State.perform, State.setSchedule_parser]
    rfl
  case statusPage =>
    rw [step_event hs (by simp), State.perform, State.setSchedule_parser]
    rfl
  case globalSize =>
    rw [step_event hs (by simp), State.perform, State.hostSetTableSize_ok fun h => hz h.2]
    rfl
  case globalRefused =>
    subst hz
    rw [step_event hs (by simp), State.perform, State.hostSetTableSize_refused]
  case perProcessSize =>
    rw [step_event hs (by simp), State.perform, State.hostSetTableSize_ok (by simp), State.setTableById,
      State.setSchedule_tableById, State.setSchedule_parser]
    rfl

/-! ## Reads -/

theorem State.hostReadMem_mapped {s : State} {j : TableId} {a n : Nat} {pas : List Nat}
    (h : (s.tableById j).plan (BitVec.ofNat 32 a) n = .ok pas) : s.hostReadMem (.gfx j) a n = .next s := by
  rw [State.hostReadMem, h]

theorem State.hostReadMem_unmapped {s : State} {j : TableId} {a n : Nat} {b : GraphicsAddress}
    (h : (s.tableById j).plan (BitVec.ofNat 32 a) n = .error b) :
    s.hostReadMem (.gfx j) a n = .fault (.gttError b) := by
  rw [State.hostReadMem, h]

/-- Settles O30. -/
theorem hostReadsObserve : Obligations.HostReadsObserve := by
  unfold Obligations.HostReadsObserve
  intro s l
  refine ⟨fun a n hs => ?phys, fun j a n hs => ⟨fun pas hplan => ?mapped, fun b hplan => ?unmapped⟩,
    fun o hs => ⟨fun ho => ?reg, fun ho => ?misaligned⟩⟩
  all_goals rw [step_event hs (by simp), State.perform]
  case phys => rfl
  case mapped => exact State.hostReadMem_mapped (s := s.setSchedule l) (by simpa using hplan)
  case unmapped => exact State.hostReadMem_unmapped (by simpa using hplan)
  case reg => exact if_pos ho
  case misaligned => exact if_neg ho

/-! ## Registers -/

theorem ringRegisterOffsets_contains_iff {o : Nat} :
    ringRegisterOffsets.contains o = true ↔ o = 0x2030 ∨ o = 0x2034 ∨ o = 0x2038 ∨ o = 0x203C := by
  simp [ringRegisterOffsets]

section
variable {s : State} {o : Nat} {v : Word} {r : NamedReg}

theorem State.hostWriteReg_ok (ho : o % 4 = 0) (hr : ¬ (o = 0x2030 ∨ o = 0x2034 ∨ o = 0x2038 ∨ o = 0x203C)) :
    s.hostWriteReg o v = .next (s.writeReg o v) := by
  rw [State.hostWriteReg, if_pos ho, if_neg (mt ringRegisterOffsets_contains_iff.1 hr)]

theorem State.hostWriteReg_ringRegister (hr : o = 0x2030 ∨ o = 0x2034 ∨ o = 0x2038 ∨ o = 0x203C) :
    s.hostWriteReg o v = .refused .registerLayoutNotInSource := by
  rw [State.hostWriteReg, if_pos (by omega), if_pos (ringRegisterOffsets_contains_iff.2 hr)]

theorem State.hostWriteReg_misaligned (ho : o % 4 ≠ 0) : s.hostWriteReg o v = .refused .misaligned := if_neg ho

theorem State.hostWriteNamedReg_ok (hr : r.isRingPointer = false) :
    s.hostWriteNamedReg r v = .next (s.writeNamed r v) := if_neg (by simp [hr])

theorem State.hostWriteNamedReg_ringPointer (hr : r.isRingPointer = true) :
    s.hostWriteNamedReg r v = .refused .registerLayoutNotInSource := if_pos hr

end

/-- Settles O38: a write that is taken is `writeReg` or `writeNamed`, whose reads the register laws give. -/
theorem hostRegisterWritesAreStorage : Obligations.HostRegisterWritesAreStorage := by
  unfold Obligations.HostRegisterWritesAreStorage
  refine ⟨fun s o v l hs => ⟨fun ho h0 h1 h2 h3 => ?written, fun hr => ?ringRegister, fun ho => ?misaligned⟩,
    fun s r v l hs => ⟨fun hr => ?writtenNamed, fun hr => ?ringPointer⟩⟩
  all_goals rw [step_event hs (by simp), State.perform]
  case written =>
    refine ⟨_, State.hostWriteReg_ok ho (by omega), ?self, fun p hp => ?others, rfl⟩
    case self => rw [State.readReg_writeReg, if_pos rfl]
    case others => rw [State.readReg_writeReg, if_neg hp]; rfl
  case ringRegister => exact State.hostWriteReg_ringRegister hr
  case misaligned => exact State.hostWriteReg_misaligned ho
  case writtenNamed =>
    refine ⟨_, State.hostWriteNamedReg_ok hr, ?self, fun q hq => ?others, rfl⟩
    case self => rw [State.readNamed_writeNamed, if_pos rfl]
    case others => rw [State.readNamed_writeNamed, if_neg hq]; rfl
  case ringPointer => exact State.hostWriteNamedReg_ringPointer hr

/-! ## Mapping a page -/

section
variable {t : PageTable} {a b : GraphicsAddress} {x : PageEntry}

/-- Inside the aperture, an address of the page that is mapped translates to its offset in the new page. -/
theorem PageTable.translate_mapPage_same (ha : pteIndex a < t.size.entries) (hb : pteIndex b = pteIndex a) :
    (t.mapPage a x).translate b = some (x.page * 4096 + b.toNat % 4096) := by
  rw [PageTable.translate, PageTable.entry?_mapPage, if_pos ⟨hb, ha⟩]
  rfl

theorem PageTable.translate_mapPage_other (hb : pteIndex b ≠ pteIndex a) :
    (t.mapPage a x).translate b = t.translate b := by
  rw [PageTable.translate, PageTable.entry?_mapPage, if_neg fun h => hb h.1, PageTable.translate]

theorem PageTable.mapPage_beyond (ha : t.size.entries ≤ pteIndex a) : t.mapPage a x = t := if_neg ha.not_gt

end

theorem State.setTableById_tableById_ne (s : State) {j k : TableId} (h : k ≠ j) (t : PageTable) :
    (s.setTableById j t).tableById k = s.tableById k := by
  match j, k with
  | .global, .global => exact absurd rfl h
  | .global, .perProcess e => rw [State.setTableById, State.tableById, State.setGtt_parser, State.tableById]
  | .perProcess e, .global => rw [State.setTableById, State.tableById, State.setParser_gtt, State.tableById]
  | .perProcess e, .perProcess f =>
    have hfe : f ≠ e := fun hfe => h (hfe ▸ rfl)
    rw [State.setTableById, State.tableById, State.setParser_parser_ne s _ hfe, State.tableById]

theorem State.setTableById_same (s : State) (j : TableId) : s.setTableById j (s.tableById j) = s := by
  cases j with
  | global => rfl
  | perProcess e => exact s.setParser_same e

/-- Replacing a table changes nothing but tables. -/
theorem State.setTableById_frame (s : State) (j : TableId) (t : PageTable) :
    s.setTableById j t = { s with
      gtt := (s.setTableById j t).gtt
      render := { s.render with ppgtt := (s.setTableById j t).render.ppgtt }
      video := { s.video with ppgtt := (s.setTableById j t).video.ppgtt }
      blitter := { s.blitter with ppgtt := (s.setTableById j t).blitter.ppgtt } } := by
  match j with
  | .global => rfl
  | .perProcess .render => rfl
  | .perProcess .video => rfl
  | .perProcess .blitter => rfl

/-- Settles O39: the event is `mapPage` on one table, which `setTableById` puts in its place. -/
theorem hostMapsAPage : Obligations.HostMapsAPage := by
  unfold Obligations.HostMapsAPage
  intro s j a x l hs
  rw [step_event hs (by simp), State.perform, State.hostMapPage, State.setSchedule_tableById]
  refine ⟨_, rfl, fun ha b hb => ?same, fun b hb => ?other, fun k hk => ?tables, ?frame, fun ha => ?beyond⟩
  case same => rw [State.setTableById_self, PageTable.translate_mapPage_same ha hb]
  case other => rw [State.setTableById_self, PageTable.translate_mapPage_other hb]
  case tables => rw [State.setTableById_tableById_ne _ hk, State.setSchedule_tableById]
  case frame => exact State.setTableById_frame (s.setSchedule l) j _
  case beyond =>
    rw [PageTable.mapPage_beyond ha, ← State.setSchedule_tableById s l, State.setTableById_same]
    rfl

/-! ## Writes to memory -/

/-- Consecutive bytes written are read back. -/
theorem readPhys_writePhys_range' (m : List Host.Cell) (a : Nat) (bytes : List Byte) {k : Nat} (hk : k < bytes.length) :
    readPhys (writePhys m (List.range' a bytes.length) bytes) (a + k) = bytes[k] := by
  have hk' : k < (List.range' a bytes.length).length := by rwa [List.length_range']
  have hget : (List.range' a bytes.length)[k] = a + k := by rw [List.getElem_range', one_mul]
  rw [← hget]
  exact readPhys_writePhys_get _ bytes m List.nodup_range' k hk' hk

/-- Settles O40. -/
theorem hostMemoryWritesLand : Obligations.HostMemoryWritesLand := by
  unfold Obligations.HostMemoryWritesLand
  refine ⟨fun s a bytes l hs hfree => ?phys, fun s j a bytes l hs =>
    ⟨fun pas hplan hfree => ?mapped, fun b hplan => ?unmapped⟩⟩
  all_goals rw [step_event hs (by simp), State.perform, State.hostWriteMem]
  case phys =>
    refine ⟨_, State.commit_ok hfree, fun k hk => readPhys_writePhys_range' _ a bytes hk, fun p hp => ?others, rfl⟩
    exact readPhys_writePhys_of_notMem _ bytes _ fun hmem => by
      rw [List.mem_range'_1] at hmem
      omega
  case mapped =>
    rw [State.storeGfx_of_plan (by simpa using hplan), State.commit_ok (by simpa using hfree)]
    rfl
  case unmapped => rw [State.storeGfx, State.setSchedule_tableById, hplan]

end Sys2Proof.Machine
end

section
/-! The state after reset, and a command placed in it where the next step fetches (70_reset_and_hazards.md R801, R802;
10_state.md R45, R84, R85, R87; 20_memory.md R96, R100). -/

namespace Sys2Proof

/-! ## What a decoder reads of a command -/

/-- A common command is decoded from the DWords that hold its fields, whatever follows them. -/
theorem decodeCommon_take {w : Word} {body : List Word} {i : Instr} (h : decodeCommon w body = .ok i) :
    decodeCommon w (body.take i.bodyWords) = .ok i := by
  unfold decodeCommon at h ⊢
  generalize (field w 16 11).toNat = opcode at h ⊢
  split at h
  case h_5 => exact h
  case h_6 => cases h
  all_goals
    split at h
    · cases h; rfl
    · cases h

theorem decode_take {e : Engine} {w : Word} {body : List Word} {i : Instr} (h : decode e (w :: body) = .ok i) :
    decode e (w :: body.take i.bodyWords) = .ok i := by
  cases e with
  | render =>
    change decodeRender w body = .ok i at h
    change decodeRender w (body.take i.bodyWords) = .ok i
    rcases Machine.decodeRender_body w with hc | hc
    · rw [hc] at h ⊢; exact decodeCommon_take h
    · rw [hc _ body, h]
  | video => exact h
  | blitter => exact h

theorem Instr.bodyWords_lt_maxWords (i : Instr) : i.bodyWords < maxWords := by
  unfold Instr.bodyWords
  split <;> decide

theorem length_tableBytes (nbits w : Nat) : (tableBytes nbits w).length = 40 := length_bytesOfNat _ _

/-- What a table word decodes to is what its parser decodes its bytes to. -/
theorem decodeTableWord_eq_some {nbits w : Nat} {i : Instr} (h : decodeTableWord nbits w = some i) :
    decodeBytes (tableEngine (tableBytes nbits w)) (tableBytes nbits w) = .ok i := by
  simp only [decodeTableWord] at h
  split at h
  · cases h; assumption
  · cases h

end Sys2Proof

namespace Sys2Proof.Machine

/-! ## Reset -/

theorem Parser.resetWith_wf (p : TableSize) : (Parser.resetWith p).Wf where
  ring := nofun
  bbHead := rfl
  ppgtt := rfl

theorem Gpe.reset_wf : Gpe.reset.Wf where
  pipeline := nofun
  general := trivial
  dataPort := trivial
  surface := trivial
  dynamicState := trivial
  indirectObject := trivial
  instruction := trivial
  swTess := trivial
  bounds := rfl

theorem ThreadsFit.nil (v : Config.Variant) : ThreadsFit v [] := ⟨Nat.zero_le _, fun _ => Nat.zero_le _, Nat.zero_le _⟩

/-- After reset all is empty or unset, so only the size of the global table has anything to meet (20_memory.md R96). -/
theorem State.resetWith_inv (v : Config.Variant) {g : TableSize} (p : TableSize) (a : Accepted) (hg : g ≠ .kb64) :
    (State.resetWith v g p a).Inv where
  render := Parser.resetWith_wf p
  video := Parser.resetWith_wf p
  blitter := Parser.resetWith_wf p
  gpe := Gpe.reset_wf
  phys := memoryWf_nil
  mmio := Assoc.canonical_nil 0
  namedRegs := Assoc.canonical_nil 0
  gtt := rfl
  gttSize := hg
  threads := List.Pairwise.nil
  threadsFit := .nil v
  urb := rfl
  fifo := Nat.zero_le _

/-- Settles O48. -/
theorem resetIsWellKept : Obligations.ResetIsWellKept := by
  unfold Obligations.ResetIsWellKept
  exact ⟨State.resetWith_inv .large .kb512 ⟨false, false⟩ nofun, fun v g p a hg => State.resetWith_inv v p a hg⟩

theorem State.reset_parser (e : Engine) : State.reset.parser e = Parser.resetWith .kb512 := by
  cases e <;> rfl

/-- Settles O50: what `State.reset` lists, and a parser whose ring is not valid is idle. -/
theorem resetLeavesAllUnset : Obligations.ResetLeavesAllUnset := by
  unfold Obligations.ResetLeavesAllUnset
  refine ⟨rfl, fun e => ?parser, rfl, rfl, rfl, rfl, rfl, rfl⟩
  rw [State.reset_parser]
  exact ⟨rfl, rfl, Parser.idle_iff.2 (.inl rfl)⟩

/-! ## Bytes that a parser reads as DWords -/

/-- From Graphics Address `a` on, the engine reads the bytes `bs`. -/
def State.Holds (s : State) (e : Engine) : GraphicsAddress → List Byte → Prop
  | _, [] => True
  | a, b :: bs => s.readGfx (s.tableIdOf e) a = some b ∧ s.Holds e (a + 1) bs

theorem State.readGfx_eq_some {s : State} {j : TableId} {a : GraphicsAddress} {b : Byte}
    (h : s.readGfx j a = some b) : ∃ p, (s.tableById j).translate a = some p ∧ readPhys s.phys p = b :=
  Option.map_eq_some_iff.1 h

section
variable {s : State} {e : Engine} {a : GraphicsAddress}

theorem State.holds_of_readGfx {bs : List Byte}
    (h : ∀ (k : Nat) (hk : k < bs.length), s.readGfx (s.tableIdOf e) (a + BitVec.ofNat 32 k) = some bs[k]) :
    s.Holds e a bs := by
  induction bs generalizing a with
  | nil => trivial
  | cons b bs ih =>
    refine ⟨by simpa using h 0 (Nat.zero_lt_succ _), ih fun k hk => ?_⟩
    have hstep : a + 1 + BitVec.ofNat 32 k = a + BitVec.ofNat 32 (k + 1) := by
      rw [add_assoc, add_comm 1, ofNat32_add_one]
    rw [hstep]
    exact h (k + 1) (Nat.succ_lt_succ hk)

/-- Four bytes are read as the DWord they make, lowest address first (20_memory.md R100). -/
theorem State.readWord_of_holds {b0 b1 b2 b3 : Byte} {rest : List Byte}
    (h : s.Holds e a (b0 :: b1 :: b2 :: b3 :: rest)) :
    s.readWord e a = .ok (wordOfBytes b0 b1 b2 b3) ∧ s.Holds e (a + 4) rest := by
  obtain ⟨h0, h1, h2, h3, hrest⟩ := h
  obtain ⟨p0, ht0, rfl⟩ := State.readGfx_eq_some h0
  obtain ⟨p1, ht1, rfl⟩ := State.readGfx_eq_some h1
  obtain ⟨p2, ht2, rfl⟩ := State.readGfx_eq_some h2
  obtain ⟨p3, ht3, rfl⟩ := State.readGfx_eq_some h3
  have hplan : (s.tableOf e).plan a 4 = .ok [p0, p1, p2, p3] := by
    simp only [State.tableOf, PageTable.plan, ht0, ht1, ht2, ht3]
  have hnext : a + 1 + 1 + 1 + 1 = a + 4 := by simp only [add_assoc]; rfl
  exact ⟨by rw [State.readWord, hplan], hnext ▸ hrest⟩

/-- As many DWords as the bytes make are read one after the other. -/
theorem State.readWords_of_holds {bs : List Byte} (h : s.Holds e a bs) {n : Nat} (hn : 4 * n ≤ bs.length) :
    s.readWords e a n = .ok ((wordsOfBytes bs).take n) := by
  induction n generalizing a bs with
  | zero => rfl
  | succ n ih =>
    match bs, hn with
    | b0 :: b1 :: b2 :: b3 :: rest, hn =>
      obtain ⟨hword, hrest⟩ := State.readWord_of_holds h
      have hlen : 4 * n ≤ rest.length := by simp only [List.length_cons] at hn; omega
      rw [State.readWords, hword]
      simp only [ih hrest hlen]
      rfl

/-- Where the bytes of a command lie at `pc`, the step executes the command they decode to (10_state.md R45). -/
theorem step_of_holds {bs : List Byte} {i : Instr} (hs : s.schedule = []) (hidle : (s.parser s.turn).idle = false)
    (hholds : s.Holds s.turn (s.parser s.turn).pc bs) (hlen : 4 * maxWords ≤ bs.length)
    (hi : decodeBytes s.turn bs = .ok i) : step s = exec i s := by
  match bs, hlen with
  | b0 :: b1 :: b2 :: b3 :: rest, hlen =>
    obtain ⟨hword, hrest⟩ := State.readWord_of_holds hholds
    have hbody : 4 * i.bodyWords ≤ rest.length := by
      have := i.bodyWords_lt_maxWords
      simp only [List.length_cons] at hlen
      omega
    exact stepRunsTheDecodedCommand s _ _ i hs hidle hword (State.readWords_of_holds hrest hbody) (decode_take hi)

end

/-! ## Placing a command -/

section
variable (s : State) (e : Engine) (bs : List Byte)

@[simp] theorem State.placeProgram_turn : (s.placeProgram e bs).turn = e := rfl

@[simp] theorem State.placeProgram_schedule : (s.placeProgram e bs).schedule = [] := rfl

theorem State.placeProgram_parser : (s.placeProgram e bs).parser e =
    { s.parser e with ring := programRing, bb := { (s.parser e).bb with active := false }, table := .global } := by
  simp [State.placeProgram]

theorem State.placeProgram_gtt :
    (s.placeProgram e bs).gtt = s.gtt.mapPage (BitVec.ofNat 32 4096) ⟨1, false⟩ := by
  simp [State.placeProgram]

theorem State.placeProgram_phys :
    (s.placeProgram e bs).phys = writePhys s.phys (List.range' 4096 bs.length) bs := by
  simp [State.placeProgram]

theorem State.placeProgram_tableIdOf : (s.placeProgram e bs).tableIdOf e = .global := by
  rw [State.tableIdOf, State.placeProgram_parser]

theorem State.placeProgram_idle : ((s.placeProgram e bs).parser e).idle = false := by
  rw [State.placeProgram_parser]
  rfl

theorem State.placeProgram_pc : ((s.placeProgram e bs).parser e).pc = BitVec.ofNat 32 4096 := by
  rw [State.placeProgram_parser, Parser.pc_of_inactive rfl]
  rfl

/-- The bytes of the command lie at `pc`: they fit in the page that is mapped for them (log entry 18). -/
theorem State.placeProgram_holds (hsize : 1 < s.gtt.size.entries) (hlen : bs.length ≤ 4096) :
    (s.placeProgram e bs).Holds e (BitVec.ofNat 32 4096) bs := by
  refine State.holds_of_readGfx fun k hk => ?_
  have haddr : (BitVec.ofNat 32 4096 + BitVec.ofNat 32 k : GraphicsAddress).toNat = 4096 + k := by
    rw [← BitVec.ofNat_add, BitVec.toNat_ofNat, Nat.mod_eq_of_lt (by omega)]
  have hpage : pteIndex (BitVec.ofNat 32 4096 + BitVec.ofNat 32 k) = pteIndex (BitVec.ofNat 32 4096) := by
    show (BitVec.ofNat 32 4096 + BitVec.ofNat 32 k : GraphicsAddress).toNat / 4096 = 1
    omega
  have hin : pteIndex (BitVec.ofNat 32 4096) < s.gtt.size.entries := hsize
  have htrans : ((s.placeProgram e bs).tableById .global).translate (BitVec.ofNat 32 4096 + BitVec.ofNat 32 k) =
      some (4096 + k) := by
    rw [State.tableById, State.placeProgram_gtt, PageTable.translate_mapPage_same hin hpage, haddr]
    exact congrArg some (by omega : 1 * 4096 + (4096 + k) % 4096 = 4096 + k)
  rw [State.placeProgram_tableIdOf, State.readGfx, htrans, Option.map_some, State.placeProgram_phys,
    readPhys_writePhys_range' _ _ _ hk]

end

/-- Settles O10: placed after reset, the bytes of the table word lie at the `pc` of a parser that is not idle. -/
theorem placedCommandRunsFirst : Obligations.PlacedCommandRunsFirst := by
  unfold Obligations.PlacedCommandRunsFirst
  intro nbits w i hi
  have hlen : (tableBytes nbits w).length = 40 := length_tableBytes nbits w
  refine step_of_holds (bs := tableBytes nbits w) rfl (State.placeProgram_idle ..) ?_ hlen.ge
    (decodeTableWord_eq_some hi)
  rw [State.withFetchWord, State.placeProgram_turn, State.placeProgram_pc]
  exact State.placeProgram_holds _ _ _ (by decide) (by omega)

end Sys2Proof.Machine
end
